-- ==== Sys2Proof/Word.lean ====
section
/-! DEFINITION. The words the part handles and the names the manual gives to small sets: ports, uplinks, radios, classes,
tiers, verdicts, power states. Each container `Per…` holds one value for each name of such a set. -/

namespace Sys2Proof

/-- One octet. -/
abbrev Byte := BitVec 8

/-- A 32-bit register, body word or time count. -/
abbrev Word := BitVec 32

/-- An IP address as its 16 bytes in wire order, byte 0 most significant; an IPv4 address takes the first four (R182). -/
abbrev Address := BitVec 128

/-- A 48-bit Ethernet hardware address in wire order. -/
abbrev Mac := BitVec 48

/-- The four Ethernet ports (chapter 1). -/
inductive Port where
  | lan | f | ra | rb
deriving DecidableEq, Repr

/-- The three uplinks. NONE is `none : Option Uplink`. -/
inductive Uplink where
  | fibre | radioA | radioB
deriving DecidableEq, Repr

/-- The two radios. -/
inductive Radio where
  | a | b
deriving DecidableEq, Repr

/-- The eight condition inputs C0 to C7 (chapter 2). -/
inductive Input where
  | mainsPresent | batteryLow | opticalLoss | radioAReady | radioBReady | lineBusy1 | lineBusy2 | aux
deriving DecidableEq, Repr

/-- The four traffic classes (R110). -/
inductive TrafficClass where
  | voice | interactive | standard | bulk
deriving DecidableEq, Repr

/-- The IP version of a key, a prefix or an addressing record. -/
inductive IpVersion where
  | v4 | v6
deriving DecidableEq, Repr

/-- The Judge's classification of an uplink (R69). -/
inductive Verdict where
  | unknown | good | poor | failed
deriving DecidableEq, Repr

/-- The power state of a radio (section 3.1). -/
inductive RadioState where
  | off | warming | standby | carrying
deriving DecidableEq, Repr

/-- The standby policy of a radio (R32). -/
inductive Policy where
  | cold | warm
deriving DecidableEq, Repr

/-- The power tier (section 2.4). -/
inductive PowerTier where
  | mains | battery | reserve
deriving DecidableEq, Repr

/-- The allowance tier of a radio (R147). -/
inductive AllowanceTier where
  | normal | lean | scarce | spent
deriving DecidableEq, Repr

/-- The Selector's engine mode (R92). -/
inductive EngineMode where
  | steering | hold
deriving DecidableEq, Repr

/-- The state of a flow entry (R132). -/
inductive EntryState where
  | settled | held | shed
deriving DecidableEq, Repr

/-- The policer mode of a class (R153). -/
inductive PolicerMode where
  | own | follow
deriving DecidableEq, Repr

/-- The protocol a class rule names (section 7.3). -/
inductive RuleProtocol where
  | any | tcp | udp | icmp
deriving DecidableEq, Repr

/-- The resolution of one probe as the window keeps it (R71). -/
inductive ProbeResult where
  | answered | lost
deriving DecidableEq, Repr

/-- How one block of the settings image reads: clean, with one bad bit corrected, or uncorrectable (R177). -/
inductive BlockRead where
  | clean | corrected | uncorrectable
deriving DecidableEq, Repr

/-- Which part of a split frame: part number 1 or 2 (R10). -/
inductive SplitPart where
  | first | second
deriving DecidableEq, Repr

/-- The two halves of the area base (R161). -/
inductive AreaHalf where
  | low | high
deriving DecidableEq, Repr

/-- One value for each uplink. -/
structure PerUplink (α : Type) where
  fibre  : α
  radioA : α
  radioB : α
deriving DecidableEq, Repr

/-- One value for each radio. -/
structure PerRadio (α : Type) where
  a : α
  b : α
deriving DecidableEq, Repr

/-- One value for each port. -/
structure PerPort (α : Type) where
  lan : α
  f   : α
  ra  : α
  rb  : α
deriving DecidableEq, Repr

/-- One value for each condition input. -/
structure PerInput (α : Type) where
  mainsPresent : α
  batteryLow   : α
  opticalLoss  : α
  radioAReady  : α
  radioBReady  : α
  lineBusy1    : α
  lineBusy2    : α
  aux          : α
deriving DecidableEq, Repr

/-- One value for each traffic class. -/
structure PerClass (α : Type) where
  voice       : α
  interactive : α
  standard    : α
  bulk        : α
deriving DecidableEq, Repr

/-- One value for each allowance tier. -/
structure PerTier (α : Type) where
  normal : α
  lean   : α
  scarce : α
  spent  : α
deriving DecidableEq, Repr

variable {α : Type}

def PerUplink.get (p : PerUplink α) : Uplink → α
  | .fibre => p.fibre
  | .radioA => p.radioA
  | .radioB => p.radioB

def PerUplink.set (p : PerUplink α) (u : Uplink) (x : α) : PerUplink α :=
  match u with
  | .fibre => { p with fibre := x }
  | .radioA => { p with radioA := x }
  | .radioB => { p with radioB := x }

def PerRadio.get (p : PerRadio α) : Radio → α
  | .a => p.a
  | .b => p.b

def PerRadio.set (p : PerRadio α) (r : Radio) (x : α) : PerRadio α :=
  match r with
  | .a => { p with a := x }
  | .b => { p with b := x }

def PerPort.get (p : PerPort α) : Port → α
  | .lan => p.lan
  | .f => p.f
  | .ra => p.ra
  | .rb => p.rb

def PerPort.set (p : PerPort α) (o : Port) (x : α) : PerPort α :=
  match o with
  | .lan => { p with lan := x }
  | .f => { p with f := x }
  | .ra => { p with ra := x }
  | .rb => { p with rb := x }

def PerInput.get (p : PerInput α) : Input → α
  | .mainsPresent => p.mainsPresent
  | .batteryLow => p.batteryLow
  | .opticalLoss => p.opticalLoss
  | .radioAReady => p.radioAReady
  | .radioBReady => p.radioBReady
  | .lineBusy1 => p.lineBusy1
  | .lineBusy2 => p.lineBusy2
  | .aux => p.aux

def PerInput.set (p : PerInput α) (i : Input) (x : α) : PerInput α :=
  match i with
  | .mainsPresent => { p with mainsPresent := x }
  | .batteryLow => { p with batteryLow := x }
  | .opticalLoss => { p with opticalLoss := x }
  | .radioAReady => { p with radioAReady := x }
  | .radioBReady => { p with radioBReady := x }
  | .lineBusy1 => { p with lineBusy1 := x }
  | .lineBusy2 => { p with lineBusy2 := x }
  | .aux => { p with aux := x }

def PerClass.get (p : PerClass α) : TrafficClass → α
  | .voice => p.voice
  | .interactive => p.interactive
  | .standard => p.standard
  | .bulk => p.bulk

def PerClass.set (p : PerClass α) (c : TrafficClass) (x : α) : PerClass α :=
  match c with
  | .voice => { p with voice := x }
  | .interactive => { p with interactive := x }
  | .standard => { p with standard := x }
  | .bulk => { p with bulk := x }

def PerTier.get (p : PerTier α) : AllowanceTier → α
  | .normal => p.normal
  | .lean => p.lean
  | .scarce => p.scarce
  | .spent => p.spent

/-- The same value for every uplink. -/
def PerUplink.all (x : α) : PerUplink α := ⟨x, x, x⟩
/-- The same value for both radios. -/
def PerRadio.all (x : α) : PerRadio α := ⟨x, x⟩
/-- The same value for every port. -/
def PerPort.all (x : α) : PerPort α := ⟨x, x, x, x⟩
/-- The same value for every input. -/
def PerInput.all (x : α) : PerInput α := ⟨x, x, x, x, x, x, x, x⟩
/-- The same value for every class. -/
def PerClass.all (x : α) : PerClass α := ⟨x, x, x, x⟩

/-- The eight inputs in the order of their numbers, C0 first. -/
def PerInput.toList (p : PerInput α) : List α :=
  [p.mainsPresent, p.batteryLow, p.opticalLoss, p.radioAReady, p.radioBReady, p.lineBusy1, p.lineBusy2, p.aux]

/-- The radio behind an uplink, if it is one. -/
def Uplink.radio? : Uplink → Option Radio
  | .fibre => none
  | .radioA => some .a
  | .radioB => some .b

def Radio.uplink : Radio → Uplink
  | .a => .radioA
  | .b => .radioB

def Radio.other : Radio → Radio
  | .a => .b
  | .b => .a

/-- The port an uplink is attached to. -/
def Uplink.port : Uplink → Port
  | .fibre => .f
  | .radioA => .ra
  | .radioB => .rb

/-- The uplink behind a port; the LAN port faces the home. -/
def Port.uplink? : Port → Option Uplink
  | .lan => none
  | .f => some .fibre
  | .ra => some .radioA
  | .rb => some .radioB

def Radio.port (r : Radio) : Port := r.uplink.port

/-- A radio is ready when its state is STANDBY or CARRYING (section 3.1). -/
def RadioState.ready : RadioState → Bool
  | .standby => true
  | .carrying => true
  | .off => false
  | .warming => false

end Sys2Proof
end

