-- ==== Sys2Proof/Syntax.lean ====
section
/-! DEFINITION. The commands of the part: one constructor of `Instr` for each row of spec/opcode_table.json, with its operands.
The table gives no row any bits, so an operand is what the row's rule says the event or request carries. Request operands have
the widths of the body words of section 12.4. -/

namespace Sys2Proof

/-- The outside of the part at the moment a command is taken: it accompanies every command (log entry 1).
`elapsed` is the time in µs since the previous command. `hostWrites` are the bytes the host wrote to its own memory since then.
`failing` names the access of this command that fails, counted from 0 (R164), or none. `supplyInRange` is the reading of the
programming-supply monitor (R180). -/
structure Moment where
  elapsed       : Nat
  hostWrites    : List Host.Cell
  failing       : Option Nat
  supplyInRange : Bool
deriving DecidableEq, Repr

/-- The slot a request was taken from and its host tag (section 10.3). -/
structure Ticket where
  slot : Fin 32
  tag  : Word
deriving DecidableEq, Repr

/-- A full addressing record as a request or the image carries it; the link limit stands beside it (section 1.2). -/
structure RawRecord where
  version       : Word
  localAddress  : Address
  localPort     : BitVec 16
  remotePort    : BitVec 16
  remoteAddress : Address
  nextHop       : Mac
deriving DecidableEq, Repr

/-- The probe part of SET_UPLINK, in milliseconds (section 4.1). -/
structure RawProbe where
  carrying : Word
  standby  : Word
  timeout  : Word
deriving DecidableEq, Repr

/-- The judgement part of SET_UPLINK (section 5.1). -/
structure RawJudge where
  failRun    : Byte
  failLoss   : Byte
  goodLoss   : Byte
  recoverRun : Byte
  delayLimit : Word
  suppress   : BitVec 16
  reuse      : BitVec 16
  decay      : BitVec 16
  bias       : BitVec 16
deriving DecidableEq, Repr

/-- The parameters of SET_UPLINK (section 12.4). `addressing` is absent 0, clear 1 or full 2. -/
structure UplinkParams where
  uplink     : Word
  addressing : Byte
  probePart  : Byte
  judgePart  : Byte
  record     : RawRecord
  linkLimit  : Word
  siteId     : Word
  probe      : RawProbe
  judge      : RawJudge
deriving DecidableEq, Repr

/-- The parameters of SET_SELECTOR (R107). -/
structure RawSelector where
  returnHold    : Word
  switchMargin  : Word
  switchSustain : Word
deriving DecidableEq, Repr

/-- A class record as SET_CLASS carries it (R154). -/
structure RawClass where
  idleTimeout    : Word
  radioAdmission : Byte
  powerAdmission : Byte
  mode           : Byte
  ownCeiling     : Word
  burst          : Word
deriving DecidableEq, Repr

/-- A class rule as SET_RULE carries it (section 12.4). -/
structure RawRule where
  valid        : Bool
  hasPorts     : Bool
  hasDscp      : Bool
  hasDest      : Bool
  hasPin       : Bool
  protocol     : Byte
  trafficClass : Byte
  pin          : Byte
  dscp         : Byte
  portLow      : BitVec 16
  portHigh     : BitVec 16
  destVersion  : Byte
  destLength   : Byte
  destAddress  : Address
deriving DecidableEq, Repr

/-- The timers and policy of a radio as SET_RADIO_TIMERS carries them, in seconds (R46). -/
structure RawTimers where
  warmMin     : Word
  attachLimit : Word
  retryWait   : Word
  coolHold    : Word
  policy      : Word
deriving DecidableEq, Repr

/-- A meter's settings as SET_ALLOWANCE carries them (R150). -/
structure RawMeter where
  allowance  : BitVec 64
  leanFrac   : Word
  scarceFrac : Word
deriving DecidableEq, Repr

/-- The parameters of SET_WATCH (R28). -/
structure RawWatch where
  mask    : Byte
  pattern : Byte
  filters : PerInput (BitVec 16)
deriving DecidableEq, Repr

/-- A key as PIN carries it (section 12.4). -/
structure RawKey where
  version  : Byte
  protocol : Byte
  source   : Address
  dest     : Address
  srcPort  : BitVec 16
  dstPort  : BitVec 16
deriving DecidableEq, Repr

/-- The commands. `m` is the moment of the command and `t` the ticket of a request. -/
inductive Instr where
  -- start-up
  | powerOn (m : Moment)
  | loadBlockRead (m : Moment) (read : BlockRead)
  | passthroughFrame (m : Moment) (port : Port) (frame : List Byte)
  -- ports
  | linkUp (m : Moment) (port : Port)
  | linkDown (m : Moment) (port : Port)
  | upstreamFrame (m : Moment) (frame : List Byte)
  | radioFrameReceived (m : Moment) (radio : Radio) (frame : List Byte)
  | fibreFrameReceived (m : Moment) (frame : List Byte)
  | partExpiry (m : Moment) (radio : Radio) (sequence : Word) (part : SplitPart)
  -- site conditions
  | rawLevelChange (m : Moment) (input : Input) (level : Bool)
  | pendingChangeDue (m : Moment) (input : Input)
  -- radio timers
  | warmMinRunout (m : Moment) (radio : Radio)
  | attachLimitRunout (m : Moment) (radio : Radio)
  | retryWaitRunout (m : Moment) (radio : Radio)
  | coolHoldRunout (m : Moment) (radio : Radio)
  -- probing
  | probeTimerRunout (m : Moment) (uplink : Uplink)
  | burstProbeDue (m : Moment) (uplink : Uplink)
  | probeExpiry (m : Moment) (uplink : Uplink) (sequence : BitVec 16)
  -- judgement and selection
  | decayTimerRunout (m : Moment) (uplink : Uplink)
  | evaluationTimerRunout (m : Moment)
  | holdLimitRunout (m : Moment)
  -- flow table and walker
  | ageingTimerRunout (m : Moment)
  | walkVisit (m : Moment)
  | flowCopyStep (m : Moment)
  | refreshTimerRunout (m : Moment)
  -- exchange
  | sweepTimerRunout (m : Moment)
  | sweepSlot (m : Moment)
  | dispatch (m : Moment)
  | exchangeStart (m : Moment) (control : Word)
  | exchangeStop (m : Moment) (control : Word)
  | deviceReset (m : Moment) (control : Word)
  | sweepIntervalSet (m : Moment) (control : Word)
  | interruptEnableSet (m : Moment) (control : Word)
  | causeClear (m : Moment) (bits : Word)
  | nudge (m : Moment) (value : Word)
  | registerWrite (m : Moment) (half : AreaHalf) (value : Word)
  | pcieLinkReset (m : Moment)
  -- requests
  | status (m : Moment) (t : Ticket)
  | snapshot (m : Moment) (t : Ticket)
  | enterHold (m : Moment) (t : Ticket) (limit : Word)
  | leaveHold (m : Moment) (t : Ticket)
  | setCarrier (m : Moment) (t : Ticket) (uplink : Word)
  | setUplink (m : Moment) (t : Ticket) (p : UplinkParams)
  | setSelector (m : Moment) (t : Ticket) (p : RawSelector)
  | setClass (m : Moment) (t : Ticket) (trafficClass : Word) (p : RawClass)
  | setRule (m : Moment) (t : Ticket) (index : Word) (p : RawRule)
  | pin (m : Moment) (t : Ticket) (key : RawKey) (uplink : Byte)
  | readFlows (m : Moment) (t : Ticket) (start : Word) (max : Word) (buffer : BitVec 64)
  | probeBurst (m : Moment) (t : Ticket) (uplink : Word) (count : Word)
  | radioPowerWarm (m : Moment) (t : Ticket) (radio : Word)
  | radioPowerOff (m : Moment) (t : Ticket) (radio : Word)
  | setRadioTimers (m : Moment) (t : Ticket) (radio : Word) (p : RawTimers)
  | setAllowance (m : Moment) (t : Ticket) (radio : Word) (p : RawMeter)
  | openPeriod (m : Moment) (t : Ticket) (radio : Word)
  | setRemaining (m : Moment) (t : Ticket) (radio : Word) (value : BitVec 64)
  | setLead (m : Moment) (t : Ticket) (p : PerTier Word)
  | setWatch (m : Moment) (t : Ticket) (p : RawWatch)
  | store (m : Moment) (t : Ticket)
  | storeBlockWritten (m : Moment)
  | supplyFault (m : Moment)
  | cancel (m : Moment) (t : Ticket) (slot : Word)
  | powerLoss (m : Moment)
deriving DecidableEq, Repr

/-- The moment a command is taken at. -/
def Instr.moment : Instr → Moment
  | .powerOn m | .loadBlockRead m _ | .passthroughFrame m _ _ | .linkUp m _ | .linkDown m _ | .upstreamFrame m _
  | .radioFrameReceived m _ _ | .fibreFrameReceived m _ | .partExpiry m _ _ _ | .rawLevelChange m _ _
  | .pendingChangeDue m _ | .warmMinRunout m _ | .attachLimitRunout m _ | .retryWaitRunout m _ | .coolHoldRunout m _
  | .probeTimerRunout m _ | .burstProbeDue m _ | .probeExpiry m _ _ | .decayTimerRunout m _
  | .evaluationTimerRunout m | .holdLimitRunout m | .ageingTimerRunout m | .walkVisit m | .flowCopyStep m
  | .refreshTimerRunout m | .sweepTimerRunout m | .sweepSlot m | .dispatch m | .exchangeStart m _ | .exchangeStop m _
  | .deviceReset m _ | .sweepIntervalSet m _ | .interruptEnableSet m _ | .causeClear m _ | .nudge m _
  | .registerWrite m _ _ | .pcieLinkReset m | .status m _ | .snapshot m _ | .enterHold m _ _ | .leaveHold m _
  | .setCarrier m _ _ | .setUplink m _ _ | .setSelector m _ _ | .setClass m _ _ _ | .setRule m _ _ _ | .pin m _ _ _
  | .readFlows m _ _ _ _ | .probeBurst m _ _ _ | .radioPowerWarm m _ _ | .radioPowerOff m _ _
  | .setRadioTimers m _ _ _ | .setAllowance m _ _ _ | .openPeriod m _ _ | .setRemaining m _ _ _ | .setLead m _ _
  | .setWatch m _ _ | .store m _ | .storeBlockWritten m | .supplyFault m | .cancel m _ _ | .powerLoss m => m

end Sys2Proof
end

