-- ==== Sys2Proof/Config.lean ====
section
/-! DEFINITION. What the manual leaves to the part itself: constants with no body, so that no proof can lean on a value.
Log entries 9, 10, 11, 16, 35 and 36. -/

namespace Sys2Proof

/-- The station address of each port, 'fixed in the part' (R4). The manual gives no value: a free value (log entry 9). -/
opaque Config.stationAddress : Port → Mac

/-- The two ECN bits beside the DSCP in an outer header, for an inner frame. R8 states the DSCP and leaves these two bits open:
a free value (log entry 10). -/
opaque Config.outerEcn : List Byte → BitVec 2

/-- The bytes a port adds when it pads a frame to 60 bytes, by frame and position. R14 states the padding and leaves its
contents open: a free value (log entry 11). -/
opaque Config.padByte : List Byte → Nat → Byte

/-- The byte that STATUS and SET_WATCH answer for the watch's conformity, CONFORMING being `true`. R185 gives the byte its place and
the manual no code: a free value (log entry 16). -/
opaque Config.conformityCode : Bool → Byte

/-- The bit that STATUS answers for a port's link, UP being `true`. R185 gives the four bits their places and the manual no code for UP
and DOWN: a free value (log entry 16). -/
opaque Config.linkBit : Bool → BitVec 1

/-- Detail 4 of a CARRIER notice for a radio whose merit, and so whose effective merit (R76), is absent. R100 gives the effective merit
and no value for its absence: a free value (log entry 35). -/
opaque Config.absentMerit : Word

/-- What a read of NUDGE gives. Section 10.1 makes the register write only and states no value: a free value (log entry 36). -/
opaque Config.nudgeReads : Word

end Sys2Proof
end

