-- ==== Sys2Proof/Machine/Types.lean ====
section
/-! DEFINITION. The records that State is made of: the settings of every block, the settings image, and each block's own state.
Times written `Word` are values of now, or of the microsecond count where a comment says so. -/

namespace Sys2Proof.Machine

/-! ## Settings in force (R176) -/

/-- A configured addressing record (section 1.2). The link limit of a radio stands beside it (R4). -/
structure AddressRecord where
  version       : IpVersion
  localAddress  : Address
  localPort     : BitVec 16
  remoteAddress : Address
  remotePort    : BitVec 16
  nextHop       : Mac
deriving DecidableEq, Repr

/-- Probe settings of one uplink, in ms (section 4.1). -/
structure ProbeSettings where
  carrying : Nat
  standby  : Nat
  timeout  : Nat
deriving DecidableEq, Repr

/-- Judgement settings of one uplink (section 5.1); the delay limit in ms. -/
structure JudgeSettings where
  failRun    : Nat
  failLoss   : Nat
  goodLoss   : Nat
  recoverRun : Nat
  delayLimit : Nat
  suppress   : Nat
  reuse      : Nat
  decay      : Nat
  bias       : Nat
deriving DecidableEq, Repr

/-- Selector settings (section 6.1); return_hold in s. -/
structure SelectorSettings where
  returnHold    : Nat
  switchMargin  : Nat
  switchSustain : Nat
deriving DecidableEq, Repr

/-- Timer settings of one radio in s, and its standby policy (section 3.2). -/
structure RadioTimers where
  warmMin     : Nat
  attachLimit : Nat
  retryWait   : Nat
  coolHold    : Nat
  policy      : Policy
deriving DecidableEq, Repr

/-- A class record (R153): idle timeout in s, ceiling in kbit/s, burst in bytes. -/
structure ClassRecord where
  idleTimeout    : Nat
  radioAdmission : AllowanceTier
  powerAdmission : PowerTier
  mode           : PolicerMode
  ownCeiling     : Nat
  burst          : Nat
deriving DecidableEq, Repr

/-- A destination prefix of a class rule (section 7.3). -/
structure DestRange where
  version : IpVersion
  length  : Nat
  address : Address
deriving DecidableEq, Repr

/-- A valid class rule (section 7.3); an invalid one is `none : Option Rule`. -/
structure Rule where
  protocol     : RuleProtocol
  ports        : Option (Nat × Nat)
  dscp         : Option Nat
  dest         : Option DestRange
  trafficClass : TrafficClass
  pin          : Option Uplink
deriving DecidableEq, Repr

/-- The watch's mask, pattern and the eight filter times in ms (R19, R24). -/
structure WatchSettings where
  mask    : Byte
  pattern : Byte
  filters : PerInput Nat
deriving DecidableEq, Repr

/-- The settings of one radio's meter (section 9.1): A in bytes, the fractions in 256ths. -/
structure MeterSettings where
  allowance  : Nat
  leanFrac   : Nat
  scarceFrac : Nat
deriving DecidableEq, Repr

/-- Every setting in force: the items of R176 but each radio's R, which its meter holds. -/
structure Settings where
  records    : PerUplink (Option AddressRecord)
  siteId     : Word
  linkLimits : PerRadio Nat
  probes     : PerUplink ProbeSettings
  judges     : PerUplink JudgeSettings
  selector   : SelectorSettings
  timers     : PerRadio RadioTimers
  classes    : PerClass ClassRecord
  rules      : List (Option Rule)
  lead       : PerTier Nat
  watch      : WatchSettings
  meters     : PerRadio MeterSettings
deriving DecidableEq, Repr

/-- The items of the settings image as its blocks hold them (R176): the same raw forms the requests carry, so that a loaded
value is checked as the request that sets it checks it (R177). The order of the items among the blocks is not given. -/
structure Image where
  records    : PerUplink (Option RawRecord)
  siteId     : Word
  linkLimits : PerRadio Word
  probes     : PerUplink RawProbe
  judges     : PerUplink RawJudge
  selector   : RawSelector
  timers     : PerRadio RawTimers
  classes    : PerClass RawClass
  rules      : List RawRule
  lead       : PerTier Word
  watch      : RawWatch
  meters     : PerRadio RawMeter
  remaining  : PerRadio (BitVec 64)
deriving DecidableEq, Repr

/-! ## Time -/

/-- The part's time: now in ms, the part of a millisecond already gone in µs, and the microsecond count (Conventions, R51).
`wraps` is the model's own: how often now has wrapped, for the one span that stops at 2^31−1 instead of wrapping (R42, R49). -/
structure Clock where
  now    : Word
  within : Nat
  micros : Word
  wraps  : Nat
deriving DecidableEq, Repr

/-! ## Start-up (chapter 11) -/

/-- The load under way: whether it began at power-on, when the stored R is applied (R178), the next block to read, and the
corrected blocks so far (R177). -/
structure LoadProgress where
  powerOn       : Bool
  next          : Nat
  corrected     : Nat
  lastCorrected : Nat
deriving DecidableEq, Repr

/-- Without supply; in PASSTHROUGH while the settings load (R18); steering (R179). -/
inductive Phase where
  | unpowered
  | loading (p : LoadProgress)
  | steering
deriving DecidableEq, Repr

/-- The result of a load (R177). -/
inductive LoadResult where
  | defaultsEmpty | defaultsError | loadedCorrected | loaded
deriving DecidableEq, Repr

/-- The load report of the last load (R176). -/
structure LoadReport where
  result        : LoadResult
  corrected     : Nat
  lastCorrected : Nat
deriving DecidableEq, Repr

/-- A running STORE: its copy of the settings, the block writes completed, and when it was taken (R180). -/
structure StoreRun where
  copy    : Image
  written : Nat
  started : Word
deriving DecidableEq, Repr

/-- The Settings Store. `image` is none while block 0 holds an invalid header; a STORE whose marker is not yet written leaves it as it
is. -/
structure SettingsStore where
  image   : Option Image
  report  : LoadReport
  running : Option StoreRun
deriving DecidableEq, Repr

/-! ## The Carry Framer (chapter 1) -/

/-- A held part of a split frame (section 1.6). -/
structure HeldPart where
  sequence : Word
  part     : SplitPart
  inner    : List Byte
  arrived  : Word
deriving DecidableEq, Repr

/-- The Carry Framer's state for one radio: its sequence counter, reassembly list (oldest first) and discard counters. -/
structure RadioFramer where
  sequence           : Word
  held               : List HeldPart
  reassemblyDiscards : Nat
  carryDiscards      : Nat
deriving DecidableEq, Repr

/-! ## The Condition Monitor (chapter 2) -/

/-- Raw and filtered levels, pending changes by due time, watch conformity and the power tier. -/
structure Conditions where
  raw        : PerInput Bool
  filtered   : PerInput Bool
  changes    : PerInput (Option Word)
  conforming : Bool
  powerTier  : PowerTier
deriving DecidableEq, Repr

/-! ## The Radio Sequencer (chapter 3) -/

/-- One radio (R32). A timer is none while idle and its due time while running; while the power output is on, warm_min is met
exactly when it no longer runs. The record of a pending host WARM is the request's entry in the in-flight set. `poweredWraps`
is the model's own: the clock's `wraps` at the power-on time. -/
structure RadioUnit where
  state        : RadioState
  draining     : Bool
  poweredAt    : Option Word
  poweredWraps : Nat
  warmMin      : Option Word
  attachLimit  : Option Word
  retryWait    : Option Word
  coolHold     : Option Word
deriving DecidableEq, Repr

/-! ## The Probe Engine (chapter 4) -/

/-- An outstanding probe (R51); `sentAt` and `due` in the microsecond count, `marked` when it belongs to the running burst. -/
structure Outstanding where
  sequence : BitVec 16
  nonce    : BitVec 16
  sentAt   : Word
  due      : Word
  marked   : Bool
deriving DecidableEq, Repr

/-- A running burst (section 4.7). The request's slot is its entry in the in-flight set. `nextDue` is none once no burst probe
is due; `clamped` says that the count was brought to range. -/
structure Burst where
  count    : Nat
  sent     : Nat
  nextDue  : Option Word
  answered : Nat
  lost     : Nat
  smallest : Nat
  sum      : Nat
  clamped  : Bool
deriving DecidableEq, Repr

/-- The five probe counters of an uplink (R62). -/
structure ProbeCounters where
  sent      : Nat
  answered  : Nat
  lost      : Nat
  late      : Nat
  discarded : Nat
deriving DecidableEq, Repr

/-- The Probe Engine's state for one uplink (R51). -/
structure Prober where
  timer       : Option Word
  sequence    : BitVec 16
  outstanding : List Outstanding
  counters    : ProbeCounters
  burst       : Option Burst
deriving DecidableEq, Repr

/-! ## The Uplink Judge (chapter 5) -/

/-- The Judge's state for one uplink (R69) and its usable decision (R86). The window is oldest first. -/
structure Judgement where
  window      : List ProbeResult
  srtt        : Option Nat
  runAnswered : Nat
  runLost     : Nat
  verdict     : Verdict
  merit       : Option Nat
  penalty     : Nat
  suppressed  : Bool
  decayTimer  : Option Word
  usable      : Bool
deriving DecidableEq, Repr

/-! ## The Carrier Selector (chapter 6) -/

/-- The Carrier Selector (R92). -/
structure Selector where
  carrier     : Uplink
  mode        : EngineMode
  holdTimer   : Option Word
  holdLimit   : Nat
  fibreSince  : Option Word
  sustain     : Nat
  stranded    : Bool
  evaluation  : Option Word
deriving DecidableEq, Repr

/-! ## The Flow Table (chapter 7) -/

/-- A key (R111). -/
structure FlowKey where
  version  : IpVersion
  source   : Address
  dest     : Address
  protocol : Byte
  srcPort  : BitVec 16
  dstPort  : BitVec 16
deriving DecidableEq, Repr

/-- A live entry (R110). An assignment of NONE is `none`. -/
structure FlowEntry where
  key          : FlowKey
  trafficClass : TrafficClass
  assigned     : Option Uplink
  state        : EntryState
  pin          : Option Uplink
  created      : Word
  lastSeen     : Word
  upBytes      : BitVec 64
  downBytes    : BitVec 64
  moves        : Nat
deriving DecidableEq, Repr

/-- The four assigned counts (R122). -/
structure AssignedCounts where
  fibre  : Nat
  radioA : Nat
  radioB : Nat
  none   : Nat
deriving DecidableEq, Repr

/-- The five table counters (R127). -/
structure TableCounters where
  creations : Nat
  refusals  : Nat
  evictions : Nat
  expiries  : Nat
  unkeyed   : Nat
deriving DecidableEq, Repr

/-- The Flow Table: live entries by index, indices strictly rising; counts; counters; the shed counters of R133; ageing timer. -/
structure FlowTable where
  entries  : List (Nat × FlowEntry)
  counts   : AssignedCounts
  counters : TableCounters
  shed     : PerClass Nat
  ageing   : Option Word
deriving DecidableEq, Repr

/-- A running READ_FLOWS copy (R124). The request's slot is its entry in the in-flight set. -/
structure FlowCopy where
  cursor  : Nat
  written : Nat
  max     : Nat
  buffer  : BitVec 64
  clamped : Bool
deriving DecidableEq, Repr

/-! ## The Migration Walker (chapter 8) -/

/-- A running walk (R135); `triggers` is a bit set by the codes of R136. -/
structure Walk where
  cursor      : Nat
  passPending : Bool
  passes      : Nat
  moved       : Nat
  held        : Nat
  shed        : Nat
  triggers    : Word
deriving DecidableEq, Repr

/-! ## Allowance and policing (chapter 9) -/

/-- One radio's meter (R146) beside its settings. -/
structure Meter where
  remaining : Nat
  used      : Nat
  overage   : Nat
  tier      : AllowanceTier
deriving DecidableEq, Repr

/-- One class's token bucket in bits, and its policed counter (R157, R160). -/
structure Bucket where
  tokens     : Nat
  lastCredit : Word
  policed    : Nat
deriving DecidableEq, Repr

/-- The Class Policer. -/
structure Policer where
  buckets : PerClass Bucket
  refresh : Option Word
deriving DecidableEq, Repr

/-! ## The Exchange Unit (chapter 10) -/

/-- The registers that hold something (R183). CONTROL never holds bit 6, and reserved bits are 0. -/
structure Registers where
  control  : Word
  cause    : Word
  areaLow  : Word
  areaHigh : Word
deriving DecidableEq, Repr

/-- A taken request in the queue (section 10.3): its body is 28 words. -/
structure QueuedRequest where
  slot : Fin 32
  kind : Byte
  tag  : Word
  body : List Word
deriving DecidableEq, Repr

/-- The operation behind an in-flight request. At most one of each is in flight (R166). -/
inductive TimedOwner where
  | burst (u : Uplink)
  | copy
  | store
  | warm (r : Radio)
deriving DecidableEq, Repr

/-- An in-flight request. `tied` is false once R168 has detached it from its slot. -/
structure InFlight where
  owner : TimedOwner
  slot  : Fin 32
  tag   : Word
  tied  : Bool
deriving DecidableEq, Repr

/-- The Exchange Unit beside its registers: queue (oldest first), in-flight set, sweep, running copy, and its own copies of the
notice counts. `sweepAt` is the next slot a sweep in progress reads. -/
structure Exchange where
  queue        : List QueuedRequest
  inFlight     : List InFlight
  sweepTimer   : Option Word
  sweepAt      : Option Nat
  sweepPending : Bool
  copy         : Option FlowCopy
  writeCount   : BitVec 16
  lostCount    : Nat
deriving DecidableEq, Repr

/-- A delivery between blocks that is an event of its own at the block it reaches: at the Selector (R93, R94) or at the Radio
Sequencer (R33, R36, R44). Deliveries are taken first in, first out, inside the step that made them (log entry 3). -/
inductive Delivery where
  /-- A verdict, suppression, radio state or draining change: an event evaluation (R93). -/
  | evaluate
  /-- A change of an uplink's usable decision (R86): R94, then an event evaluation. -/
  | usability (u : Uplink) (usable : Bool)
  /-- A carrier change, at the Radio Sequencer (R99). -/
  | carrierMoved
  /-- A radio's assigned count crossed 0 (R122), at the Radio Sequencer. -/
  | countCrossed (r : Radio)
  /-- An auto-warm request (R101), at the Radio Sequencer. -/
  | autoWarm (r : Radio)
deriving DecidableEq, Repr

/-- The kinds of notices (section 10.5). -/
inductive NoticeKind where
  | exchangeStarted | verdict | suppression | carrier | stranded | radioState | warmFailed | powerTier | allowanceTier
  | watchAlert | walkDone | tableFull | holdExpired | exchangeFault
deriving DecidableEq, Repr

/-- A notice as its owning rule gives it; its time is now when it is recorded. -/
structure Notice where
  kind    : NoticeKind
  subject : Nat
  old     : Nat
  new     : Nat
  detail1 : Nat
  detail2 : Nat
  detail3 : Nat
  detail4 : Nat
deriving DecidableEq, Repr

/-- The outcomes of a request (Conventions). -/
inductive RequestOutcome where
  | done | clamped | busy | wrongMode | badParameter | tierLimit | inUse | notFound | cancelled | tooLate | superseded
  | supplyFault | unknownKind
deriving DecidableEq, Repr

end Sys2Proof.Machine
end

