-- ==== Sys2Proof/Machine/Factory.lean ====
section
/-! DEFINITION. The factory defaults, which are in force when no image loads (R176 and the tables it cites). -/

namespace Sys2Proof.Machine

/-- Sections 4.1: fibre 1000 ms and 1000 ms; a radio 1000, 15000 and 1500 ms. Fibre has no standby interval; 0 stands there. -/
def Settings.factoryProbe : Uplink → ProbeSettings
  | .fibre => ⟨1000, 0, 1000⟩
  | .radioA => ⟨1000, 15000, 1500⟩
  | .radioB => ⟨1000, 15000, 1500⟩

/-- Section 5.1. Fibre has no bias; 0 stands there. -/
def Settings.factoryJudge : Uplink → JudgeSettings
  | .fibre => ⟨3, 8, 2, 10, 40, 3000, 750, 753, 0⟩
  | .radioA => ⟨4, 10, 3, 6, 150, 3000, 750, 753, 50⟩
  | .radioB => ⟨4, 10, 3, 6, 150, 3000, 750, 753, 0⟩

/-- Section 3.2. -/
def Settings.factoryTimers : Radio → RadioTimers
  | .a => ⟨20, 180, 300, 600, .warm⟩
  | .b => ⟨20, 180, 300, 600, .cold⟩

/-- Section 9.4. -/
def Settings.factoryClass : TrafficClass → ClassRecord
  | .voice => ⟨30, .spent, .reserve, .own, 256, 4000⟩
  | .interactive => ⟨120, .scarce, .reserve, .follow, 0, 16000⟩
  | .standard => ⟨300, .lean, .battery, .follow, 0, 32000⟩
  | .bulk => ⟨60, .normal, .mains, .follow, 0, 64000⟩

/-- Section 7.3: UDP 5060 to 5061 and DSCP 46 are VOICE; rules 2 to 31 are invalid. -/
def Settings.factoryRules : List (Option Rule) :=
  some ⟨.udp, some (5060, 5061), none, none, .voice, none⟩ ::
  some ⟨.any, none, some 46, none, .voice, none⟩ :: List.replicate 30 none

/-- The factory defaults of R176. -/
def Settings.factory : Settings where
  records := .all none
  siteId := 0
  linkLimits := .all 1500
  probes := ⟨factoryProbe .fibre, factoryProbe .radioA, factoryProbe .radioB⟩
  judges := ⟨factoryJudge .fibre, factoryJudge .radioA, factoryJudge .radioB⟩
  selector := ⟨120, 100, 3⟩
  timers := ⟨factoryTimers .a, factoryTimers .b⟩
  classes := ⟨factoryClass .voice, factoryClass .interactive, factoryClass .standard, factoryClass .bulk⟩
  rules := factoryRules
  lead := ⟨20000, 6000, 1500, 256⟩
  watch := ⟨0, 0, .all 20⟩
  meters := .all ⟨0, 64, 8⟩

end Sys2Proof.Machine
end

