-- ==== Sys2Proof/Machine/State.lean ====
section
/-! DEFINITION. The state of the part: every piece of state the manual gives its thirteen blocks, the host memory it reads and
writes as bus master, the frames that have left its ports, and the queue of waiting commands. -/

namespace Sys2Proof.Machine

/-- Reasons a command stops the part. The manual names none: a failed access stops the exchange and not the part (R164), and
every command has an effect. -/
inductive Fault where
  /-- Raised by nothing (log entry 21). Safe. -/
  | none
deriving DecidableEq, Repr

/-- Reasons a command is refused. -/
inductive Refusal where
  /-- Raised by an arm of `exec` whose command has no meaning yet; no arm is so. Safe. -/
  | notModelled (mnemonic : String)
deriving DecidableEq, Repr

/-- The part. The fields `access`, `supply`, `wire` and `deliveries` are the model's own (log entries 1, 2 and 3): the access
of the present command that fails, the supply monitor's reading, the frames that have left each port (oldest first), and the
deliveries not yet taken, empty between commands. `pending` is the queue of commands that wait. -/
structure State where
  phase      : Phase
  clock      : Clock
  links      : PerPort Bool
  cfg        : Settings
  framers    : PerRadio RadioFramer
  conditions : Conditions
  radios     : PerRadio RadioUnit
  probers    : PerUplink Prober
  judges     : PerUplink Judgement
  selector   : Selector
  flows      : FlowTable
  walk       : Option Walk
  meters     : PerRadio Meter
  policer    : Policer
  regs       : Registers
  exchange   : Exchange
  store      : SettingsStore
  memory     : List Host.Cell
  wire       : List (Port × List Byte)
  access     : Option Nat
  supply     : Bool
  deliveries : List Delivery
  pending    : List Instr
deriving DecidableEq, Repr

/-! ## Reset values of the blocks -/

/-- R50: the radio is OFF and every timer idle. -/
def RadioUnit.reset : RadioUnit := ⟨.off, false, none, 0, none, none, none, none⟩
/-- R51: no timer in PASSTHROUGH, an empty list, counters 0, the burst record idle. -/
def Prober.reset : Prober := ⟨none, 0, [], ⟨0, 0, 0, 0, 0⟩, none⟩
/-- R69. -/
def Judgement.reset : Judgement := ⟨[], none, 0, 0, .unknown, none, 0, false, none, false⟩
/-- R92. -/
def Selector.reset : Selector := ⟨.fibre, .steering, none, 0, none, 0, false, none⟩
/-- R128, R133. -/
def FlowTable.reset : FlowTable := ⟨[], ⟨0, 0, 0, 0⟩, ⟨0, 0, 0, 0, 0⟩, .all 0, none⟩
/-- R9, R14, R15. -/
def RadioFramer.reset : RadioFramer := ⟨0, [], 0, 0⟩
/-- R146 with the factory settings: unmetered, so NORMAL (R147). -/
def Meter.reset : Meter := ⟨0, 0, 0, .normal⟩
/-- R159, R160: the buckets are filled when the load ends, and hold nothing before it (log entry 8). -/
def Policer.reset : Policer := ⟨.all ⟨0, 0, 0⟩, none⟩
/-- Section 10.1. -/
def Registers.reset : Registers := ⟨0, 0, 0, 0⟩
/-- R175. -/
def Exchange.reset : Exchange := ⟨[], [], none, none, false, none, 0, 0⟩
/-- The levels before the Condition Monitor starts, when no block acts on any (R31); log entry 7. -/
def Conditions.reset : Conditions := ⟨.all false, .all false, .all none, true, .battery⟩
/-- A part that has never run a STORE has an invalid header (R176); the report before the first load is log entry 7. -/
def SettingsStore.reset : SettingsStore := ⟨none, ⟨.defaultsEmpty, 0, 0⟩, none⟩

/-- The part right after power-on (R177, R18): PASSTHROUGH, with block 0 of the image next. -/
def State.reset : State where
  phase := .loading ⟨true, 0, 0, 0⟩
  clock := ⟨0, 0, 0, 0⟩
  links := .all false
  cfg := Settings.factory
  framers := .all RadioFramer.reset
  conditions := Conditions.reset
  radios := .all RadioUnit.reset
  probers := .all Prober.reset
  judges := .all Judgement.reset
  selector := Selector.reset
  flows := FlowTable.reset
  walk := none
  meters := .all Meter.reset
  policer := Policer.reset
  regs := Registers.reset
  exchange := Exchange.reset
  store := SettingsStore.reset
  memory := []
  wire := []
  access := none
  supply := true
  deliveries := []
  pending := []

end Sys2Proof.Machine
end

