-- ==== Sys2Proof/Machine/Codes.lean ====
section
/-! DEFINITION. The numeric codes of the names (given where each is first defined, and in Data Formats) and the way back. -/

namespace Sys2Proof.Machine

def uplinkCode : Uplink → Nat
  | .fibre => 0
  | .radioA => 1
  | .radioB => 2

/-- NONE is 3; an absent pin is written 3 too (R185). -/
def assignmentCode : Option Uplink → Nat
  | none => 3
  | some u => uplinkCode u

def uplinkOfCode : Nat → Option Uplink
  | 0 => some .fibre
  | 1 => some .radioA
  | 2 => some .radioB
  | _ => none

def radioCode (r : Radio) : Nat := uplinkCode r.uplink

/-- A radio is given by its uplink code, 1 or 2 (section 3.4). -/
def radioOfCode : Nat → Option Radio
  | 1 => some .a
  | 2 => some .b
  | _ => none

def inputCode : Input → Nat
  | .mainsPresent => 0
  | .batteryLow => 1
  | .opticalLoss => 2
  | .radioAReady => 3
  | .radioBReady => 4
  | .lineBusy1 => 5
  | .lineBusy2 => 6
  | .aux => 7

def classCode : TrafficClass → Nat
  | .voice => 0
  | .interactive => 1
  | .standard => 2
  | .bulk => 3

def classOfCode : Nat → Option TrafficClass
  | 0 => some .voice
  | 1 => some .interactive
  | 2 => some .standard
  | 3 => some .bulk
  | _ => none

def versionCode : IpVersion → Nat
  | .v4 => 4
  | .v6 => 6

def versionOfCode : Nat → Option IpVersion
  | 4 => some .v4
  | 6 => some .v6
  | _ => none

def verdictCode : Verdict → Nat
  | .unknown => 0
  | .good => 1
  | .poor => 2
  | .failed => 3

def radioStateCode : RadioState → Nat
  | .off => 0
  | .warming => 1
  | .standby => 2
  | .carrying => 3

def policyCode : Policy → Nat
  | .cold => 0
  | .warm => 1

def policyOfCode : Nat → Option Policy
  | 0 => some .cold
  | 1 => some .warm
  | _ => none

def powerTierCode : PowerTier → Nat
  | .mains => 0
  | .battery => 1
  | .reserve => 2

def powerTierOfCode : Nat → Option PowerTier
  | 0 => some .mains
  | 1 => some .battery
  | 2 => some .reserve
  | _ => none

def allowanceTierCode : AllowanceTier → Nat
  | .normal => 0
  | .lean => 1
  | .scarce => 2
  | .spent => 3

def allowanceTierOfCode : Nat → Option AllowanceTier
  | 0 => some .normal
  | 1 => some .lean
  | 2 => some .scarce
  | 3 => some .spent
  | _ => none

def modeCode : EngineMode → Nat
  | .steering => 0
  | .hold => 1

def entryStateCode : EntryState → Nat
  | .settled => 0
  | .held => 1
  | .shed => 2

def policerModeCode : PolicerMode → Nat
  | .own => 0
  | .follow => 1

def policerModeOfCode : Nat → Option PolicerMode
  | 0 => some .own
  | 1 => some .follow
  | _ => none

def ruleProtocolCode : RuleProtocol → Nat
  | .any => 0
  | .tcp => 1
  | .udp => 2
  | .icmp => 3

def ruleProtocolOfCode : Nat → Option RuleProtocol
  | 0 => some .any
  | 1 => some .tcp
  | 2 => some .udp
  | 3 => some .icmp
  | _ => none

/-- A valid rule's pin: FIBRE, RADIO_A or RADIO_B (section 7.3). -/
def rulePinOfCode (n : Nat) : Option Uplink := uplinkOfCode n

def loadResultCode : LoadResult → Nat
  | .defaultsEmpty => 0
  | .defaultsError => 1
  | .loadedCorrected => 2
  | .loaded => 3

def noticeCode : NoticeKind → Nat
  | .exchangeStarted => 0
  | .verdict => 1
  | .suppression => 2
  | .carrier => 3
  | .stranded => 4
  | .radioState => 5
  | .warmFailed => 6
  | .powerTier => 7
  | .allowanceTier => 8
  | .watchAlert => 9
  | .walkDone => 10
  | .tableFull => 11
  | .holdExpired => 12
  | .exchangeFault => 13

def outcomeCode : RequestOutcome → Nat
  | .done => 0
  | .clamped => 1
  | .busy => 2
  | .wrongMode => 3
  | .badParameter => 4
  | .tierLimit => 5
  | .inUse => 6
  | .notFound => 7
  | .cancelled => 8
  | .tooLate => 9
  | .superseded => 10
  | .supplyFault => 11
  | .unknownKind => 12

/-- The request kinds of the catalogue that are timed (section 10.7). -/
def timedKind : TimedOwner → Nat
  | .burst _ => 0x0C
  | .copy => 0x0B
  | .store => 0x14
  | .warm _ => 0x0D

def boolCode (b : Bool) : Nat := if b then 1 else 0

/-- A bit set by input number (R184). -/
def inputBits (p : PerInput Bool) : Byte :=
  BitVec.ofNat 8 (p.toList.foldr (fun b n => boolCode b + 2 * n) 0)

/-- The DONE or CLAMPED outcome of a request whose values were all in range, or not. -/
def doneOrClamped (clamped : Bool) : RequestOutcome := if clamped then .clamped else .done

end Sys2Proof.Machine
end

