-- ==== Sys2Proof/Machine/Bytes.lean ====
section
/-! DEFINITION. Byte order and checksums (R182), and the Ethernet frame check sequence. -/

namespace Sys2Proof.Machine

/-! ## Little-endian numbers: registers, exchange area, flow record -/

/-- The low `n` bytes of a number, lowest first. -/
def leBytes : Nat → Nat → List Byte
  | 0, _ => []
  | n + 1, v => BitVec.ofNat 8 v :: leBytes n (v / 256)

/-- The number whose bytes, lowest first, these are. -/
def leNat : List Byte → Nat
  | [] => 0
  | b :: t => b.toNat + 256 * leNat t

/-! ## Big-endian numbers: the carry header and the wire headers -/

/-- The low `n` bytes of a number, highest first. -/
def beBytes (n v : Nat) : List Byte := (leBytes n v).reverse

/-- The number whose bytes, highest first, these are. -/
def beNat (bs : List Byte) : Nat := leNat bs.reverse

/-- `n` bytes from position `i`. -/
def slice (bs : List Byte) (i n : Nat) : List Byte := (bs.drop i).take n

/-- The byte at position `i`, 0 past the end. -/
def byteAt (bs : List Byte) (i : Nat) : Byte := bs.getD i 0

/-- The big-endian number in `n` bytes from position `i`. -/
def beAt (bs : List Byte) (i n : Nat) : Nat := beNat (slice bs i n)

/-! ## Addresses in wire order -/

/-- The 16 bytes of an IP address field. -/
def addressBytes (a : Address) : List Byte := beBytes 16 a.toNat

/-- The address that 16 bytes hold. -/
def addressOfBytes (bs : List Byte) : Address := BitVec.ofNat 128 (beNat bs)

/-- The bytes of an address as a header of its version carries them: 4 or 16. -/
def wireAddress (v : IpVersion) (a : Address) : List Byte :=
  match v with
  | .v4 => (addressBytes a).take 4
  | .v6 => addressBytes a

/-- An address field holding the address a wire header of this version carries: an IPv4 address takes the first 4 bytes. -/
def addressOfWire (v : IpVersion) (bs : List Byte) : Address :=
  match v with
  | .v4 => addressOfBytes (bs.take 4 ++ List.replicate 12 0)
  | .v6 => addressOfBytes (bs.take 16)

/-- An address field with what its version does not use set to 0 (R182). -/
def addressOf (v : IpVersion) (a : Address) : Address := addressOfWire v (addressBytes a)

/-! ## Body words -/

/-- A word with `lo` in its low half and `hi` in its high half (R182). -/
def halves (lo hi : Nat) : Word := BitVec.ofNat 32 (lo % 65536 + 65536 * (hi % 65536))

/-- A word of four bytes, byte 0 first. -/
def bytesWord (b0 b1 b2 b3 : Nat) : Word :=
  BitVec.ofNat 32 (b0 % 256 + 256 * (b1 % 256) + 65536 * (b2 % 256) + 16777216 * (b3 % 256))

def word (n : Nat) : Word := BitVec.ofNat 32 n

/-- The two words of a 64-bit value, low word first. -/
def wordPair (n : Nat) : List Word := [word n, word (n / 2 ^ 32)]

def wordBytes (w : Word) : List Byte := leBytes 4 w.toNat

/-- The 16 bytes of an address field as four words, byte 0 of a word its lowest-addressed byte. -/
def addressWords (a : Address) : List Word :=
  let bs := addressBytes a
  [0, 4, 8, 12].map (fun i => word (leNat (slice bs i 4)))

/-- The address four body words hold. -/
def addressOfWords (w0 w1 w2 w3 : Word) : Address :=
  addressOfBytes (wordBytes w0 ++ wordBytes w1 ++ wordBytes w2 ++ wordBytes w3)

/-! ## Checksums (R182) -/

/-- The sum of the 16-bit words of a byte list (R182). R182 does not say how an odd last byte enters it: the model takes the byte as the
high byte of a word whose low byte is 0, as the Internet checksum does (log entry 42). -/
def sum16 : List Byte → Nat
  | [] => 0
  | [b] => 256 * b.toNat
  | b :: c :: t => 256 * b.toNat + c.toNat + sum16 t

/-- The ones'-complement sum: carries folded back until 16 bits are left. Every sum here is below 2^32. -/
def fold16 (n : Nat) : Nat :=
  let a := n % 65536 + n / 65536
  let b := a % 65536 + a / 65536
  b % 65536 + b / 65536

/-- The ones'-complement of the ones'-complement sum of the 16-bit words. -/
def checksum (bs : List Byte) : Nat := 65535 - fold16 (sum16 bs)

/-! ## The Ethernet FCS: CRC-32 as IEEE 802.3 defines it (log entry 12) -/

def crcBits : Nat → Word → Word
  | 0, c => c
  | n + 1, c => crcBits n (if c.getLsbD 0 then (c >>> 1) ^^^ 0xEDB88320#32 else c >>> 1)

def crcByte (c : Word) (b : Byte) : Word := crcBits 8 (c ^^^ b.setWidth 32)

def crc32 (bs : List Byte) : Word := ~~~ (bs.foldl crcByte 0xFFFFFFFF#32)

/-- The four FCS bytes of a frame's other bytes. -/
def fcsBytes (bs : List Byte) : List Byte := wordBytes (crc32 bs)

/-- A frame less its last four bytes. -/
def lessFcs (frame : List Byte) : List Byte := frame.take (frame.length - 4)

/-- The frame ends in the FCS of its other bytes. -/
def fcsRight (frame : List Byte) : Bool :=
  decide (4 ≤ frame.length) && frame.drop (frame.length - 4) == fcsBytes (lessFcs frame)

def withFcs (body : List Byte) : List Byte := body ++ fcsBytes body

/-! ## Saturating counts -/

/-- A 16-bit counter that stops at 65535 (Conventions). -/
def bump (n : Nat) : Nat := min 65535 (n + 1)

/-- `n` more on a counter that stops at 65535. -/
def bumpBy (k n : Nat) : Nat := min 65535 (n + k)

/-- A value brought to the nearer limit of a range. -/
def clampTo (lo hi n : Nat) : Nat := max lo (min hi n)

/-- A value lies outside a range. -/
def outside (lo hi n : Nat) : Bool := decide (n < lo) || decide (hi < n)

end Sys2Proof.Machine
end

