-- ==== Sys2Proof/Machine/Flags.lean ====
section
/-! DEFINITION. The register window (R161, R162, R183): the fields of CONTROL, the cause bits, the interrupt line, and what a read
of each register gives. -/

namespace Sys2Proof.Machine

/-- The bits a CONTROL write stores: RUN, IRQ_ON, the four enables and SWEEP (R183). -/
def controlMask : Word := 0x0000FF3F

def runBit : Word := 0x1

/-- The enables of CONTROL: IRQ_ON and the four cause enables. -/
def enableMask : Word := 0x3E

def causeAnswer : Word := 0x1
def causeNotice : Word := 0x2
def causeLost : Word := 0x4
def causeFault : Word := 0x8

/-- A written CONTROL word carries DEVICE_RESET, bit 6 (R183). -/
def writesReset (w : Word) : Bool := w.getLsbD 6

/-- RUN is 1. -/
def Registers.run (g : Registers) : Bool := g.control.getLsbD 0

def Registers.irqOn (g : Registers) : Bool := g.control.getLsbD 1

/-- The enables of ANSWER, NOTICE, LOST and FAULT as bits 0 to 3, in the places of CAUSE. -/
def Registers.enables (g : Registers) : Word := (g.control >>> 2) &&& 0xF

/-- SWEEP, the sweep interval in ms. -/
def Registers.sweep (g : Registers) : Nat := (g.control >>> 8).toNat % 256

/-- The level of the interrupt line (R162). -/
def Registers.interruptLine (g : Registers) : Bool := g.irqOn && (g.cause &&& g.enables) != 0

/-- The 64-bit base of the exchange area (R161). -/
def Registers.areaBase (g : Registers) : Nat := g.areaLow.toNat + 2 ^ 32 * g.areaHigh.toNat

def Registers.setCause (g : Registers) (bits : Word) : Registers := { g with cause := g.cause ||| bits }

/-- The part is steering. -/
def State.steering (s : State) : Bool := s.phase == .steering

/-- The exchange runs. -/
def State.running (s : State) : Bool := s.regs.run

/-- The six registers of the window. -/
inductive RegisterName where
  | ident | control | cause | nudge | areaLow | areaHigh
deriving DecidableEq, Repr

/-- The offset of a register in the window (R183). -/
def registerOffset : RegisterName → Nat
  | .ident => 0x00
  | .control => 0x04
  | .cause => 0x08
  | .nudge => 0x0C
  | .areaLow => 0x10
  | .areaHigh => 0x14

/-- The register that lies at an offset of the window, if one does (R183). -/
def registerAt : Nat → Option RegisterName
  | 0x00 => some .ident
  | 0x04 => some .control
  | 0x08 => some .cause
  | 0x0C => some .nudge
  | 0x10 => some .areaLow
  | 0x14 => some .areaHigh
  | _ => none

/-- The register that holds a half of the area base. -/
def areaRegister : AreaHalf → RegisterName
  | .low => .areaLow
  | .high => .areaHigh

/-- IDENT (R183). -/
def identValue : Nat := 0x22400001

/-- What the host reads (R161): outside steering only IDENT reads other than 0. NUDGE is write only, and what a read of it gives is a
free value (log entry 36). -/
def State.readRegister (s : State) (r : RegisterName) : Word :=
  match r with
  | .ident => word identValue
  | .control => if s.steering then s.regs.control else 0
  | .cause => if s.steering then s.regs.cause else 0
  | .nudge => Config.nudgeReads
  | .areaLow => if s.steering then s.regs.areaLow else 0
  | .areaHigh => if s.steering then s.regs.areaHigh else 0

/-- What a read at an offset of the window gives; none where no register lies (R183). -/
def State.readWindow (s : State) (offset : Nat) : Option Word := (registerAt offset).map s.readRegister

/-- A radio's power output follows its state (R32). -/
def RadioUnit.powerOutput (u : RadioUnit) : Bool :=
  match u.state with
  | .off => false
  | .warming => true
  | .standby => true
  | .carrying => true

end Sys2Proof.Machine
end

