-- ==== Sys2Proof/Machine/Memory.lean ====
section
/-! DEFINITION. Host memory as the part reads and writes it: a 64-bit space of bytes, held as (address, byte) pairs with
addresses strictly rising and no entry equal to what an unlisted address reads as. -/

namespace Sys2Proof.Machine

/-- What an unlisted address reads as (log entry 4). -/
def unlistedByte : Byte := 0

/-- The addresses wrap at 2^64. -/
def addressSpace : Nat := 2 ^ 64

def readCell (mem : List Host.Cell) (a : Nat) : Byte :=
  match mem with
  | [] => unlistedByte
  | (k, b) :: t => if k = a then b else readCell t a

/-- Write one byte, keeping the canonical form. -/
def writeCell (mem : List Host.Cell) (a : Nat) (b : Byte) : List Host.Cell :=
  match mem with
  | [] => if b = unlistedByte then [] else [(a, b)]
  | (k, c) :: t =>
    if a < k then (if b = unlistedByte then (k, c) :: t else (a, b) :: (k, c) :: t)
    else if a = k then (if b = unlistedByte then t else (a, b) :: t)
    else (k, c) :: writeCell t a b

/-- The byte at an address. -/
def readByte (mem : List Host.Cell) (a : Nat) : Byte := readCell mem (a % addressSpace)

def writeByte (mem : List Host.Cell) (a : Nat) (b : Byte) : List Host.Cell := writeCell mem (a % addressSpace) b

/-- `n` bytes from an address. -/
def readBytes (mem : List Host.Cell) (a : Nat) : Nat → List Byte
  | 0 => []
  | n + 1 => readByte mem a :: readBytes mem (a + 1) n

/-- Bytes written from an address upwards. -/
def writeBytes (mem : List Host.Cell) (a : Nat) : List Byte → List Host.Cell
  | [] => mem
  | b :: t => writeBytes (writeByte mem a b) (a + 1) t

/-- The host's own writes, in order. -/
def writeCells (mem : List Host.Cell) : List Host.Cell → List Host.Cell
  | [] => mem
  | c :: t => writeCells (writeByte mem c.1 c.2) t

/-- The canonical form above an address. -/
def cellsRise : Nat → List Host.Cell → Bool
  | _, [] => true
  | low, (k, b) :: t => decide (low ≤ k) && decide (k < addressSpace) && (b != unlistedByte) && cellsRise (k + 1) t

/-- The canonical form of a memory. -/
def memoryWf (mem : List Host.Cell) : Bool := cellsRise 0 mem

/-- An address lies among the `n` addresses from `a` on, which wrap at 2^64. -/
def among (a n c : Nat) : Prop := ∃ j, j < n ∧ c % addressSpace = (a + j) % addressSpace

end Sys2Proof.Machine
end

