-- ==== Sys2Proof/Machine/Ops.lean ====
section
/-! DEFINITION. The shared operations: time, the state of each block by uplink or radio, accesses to host memory and their failure,
stopping the exchange, notices, answers, walk triggers and deliveries. Each is a function from state to state. -/

namespace Sys2Proof.Machine

/-! ## Time (Conventions, R51) -/

/-- Time goes on by `d` µs: now counts whole milliseconds and the microsecond count runs with it; both wrap. -/
def Clock.advance (c : Clock) (d : Nat) : Clock where
  now := c.now + BitVec.ofNat 32 ((c.within + d) / 1000)
  within := (c.within + d) % 1000
  micros := c.micros + BitVec.ofNat 32 d
  wraps := c.wraps + (c.now.toNat + (c.within + d) / 1000) / 2 ^ 32

def State.now (s : State) : Word := s.clock.now

/-- A due time is reached; each comparison is made modulo 2^32 and every timer is shorter than 2^31 (Conventions). -/
def reached (now due : Word) : Bool := decide ((now - due).toNat < 2 ^ 31)

/-- A timer is running and its due time is reached. -/
def timerDue (now : Word) : Option Word → Bool
  | none => false
  | some due => reached now due

/-- The value of now `ms` milliseconds later. -/
def State.after (s : State) (ms : Nat) : Word := s.now + BitVec.ofNat 32 ms

/-- The milliseconds from `t` to now, modulo 2^32. -/
def State.since (s : State) (t : Word) : Nat := (s.now - t).toNat

/-- Time passes, the host has written to its memory, and the outside stands as the moment says (log entry 1). -/
def State.begin (s : State) (m : Moment) : State :=
  { s with
    clock := s.clock.advance m.elapsed
    memory := writeCells s.memory m.hostWrites
    access := m.failing
    supply := m.supplyInRange }

/-! ## Reading and writing one block's state -/

def State.radio (s : State) (r : Radio) : RadioUnit := s.radios.get r
def State.judge (s : State) (u : Uplink) : Judgement := s.judges.get u
def State.prober (s : State) (u : Uplink) : Prober := s.probers.get u
def State.framer (s : State) (r : Radio) : RadioFramer := s.framers.get r
def State.meter (s : State) (r : Radio) : Meter := s.meters.get r
def State.level (s : State) (i : Input) : Bool := s.conditions.filtered.get i

def State.setRadio (s : State) (r : Radio) (x : RadioUnit) : State := { s with radios := s.radios.set r x }
def State.setJudge (s : State) (u : Uplink) (x : Judgement) : State := { s with judges := s.judges.set u x }
def State.setProber (s : State) (u : Uplink) (x : Prober) : State := { s with probers := s.probers.set u x }
def State.setFramer (s : State) (r : Radio) (x : RadioFramer) : State := { s with framers := s.framers.set r x }
def State.setMeter (s : State) (r : Radio) (x : Meter) : State := { s with meters := s.meters.set r x }
def State.setSelector (s : State) (x : Selector) : State := { s with selector := x }
def State.setRegs (s : State) (x : Registers) : State := { s with regs := x }
def State.setExchange (s : State) (x : Exchange) : State := { s with exchange := x }

/-- The usable decision as it stands (R86). -/
def State.usable (s : State) (u : Uplink) : Bool := (s.judge u).usable

/-- The addressing record of the uplink is configured (R4). -/
def State.configured (s : State) (u : Uplink) : Bool := (s.cfg.records.get u).isSome

/-- The assigned count of a radio (R122). -/
def State.radioCount (s : State) (r : Radio) : Nat :=
  match r with
  | .a => s.flows.counts.radioA
  | .b => s.flows.counts.radioB

/-- The uplink is the carrier. -/
def State.isCarrier (s : State) (u : Uplink) : Bool := s.selector.carrier == u

/-- A delivery joins the deliveries to be taken (log entry 3). -/
def State.emit (s : State) (d : Delivery) : State := { s with deliveries := s.deliveries ++ [d] }

/-! ## The exchange area: accesses and their failure (R164, R174) -/

/-- The address of an offset of the exchange area. -/
def State.area (s : State) (offset : Nat) : Nat := s.regs.areaBase + offset

/-- The offset of slot n (R184). -/
def slotOffset (slot : Nat) : Nat := 0x100 + 128 * slot

/-- The offset of notice record k (R184). -/
def noticeOffset (k : Nat) : Nat := 0x1100 + 32 * k

/-- What a stop of the exchange does beside RUN (R174, R126, R165). -/
def State.stopExchange (s : State) : State :=
  { s with exchange :=
    { s.exchange with
      queue := []
      inFlight := s.exchange.inFlight.filter (fun f => f.owner != .copy)
      sweepTimer := none
      sweepAt := none
      sweepPending := false
      copy := none } }

/-- RUN is cleared and the exchange stops (R174). -/
def State.clearRun (s : State) : State :=
  { s with regs := { s.regs with control := s.regs.control &&& ~~~runBit } }.stopExchange

/-- A failed access ends the exchange: RUN cleared, FAULT set, the exchange stopped (R164). -/
def State.accessFailure (s : State) : State :=
  { s with regs := s.regs.setCause causeFault, access := none }.clearRun

/-- One access of this command has been made. -/
def State.spend (s : State) : State := { s with access := s.access.map (· - 1) }

/-- One read access: it completes, or it fails and the exchange stops. No access is made while the exchange is stopped. -/
def State.readAccess (s : State) : State :=
  if s.running then (if s.access = some 0 then s.accessFailure else s.spend) else s

/-- One write access of these bytes at an address, while the exchange runs. A failed one has no effect of its own. -/
def State.writeAccess (s : State) (address : Nat) (bytes : List Byte) : State :=
  if s.running then
    (if s.access = some 0 then s.accessFailure
     else { s.spend with memory := writeBytes s.memory address bytes })
  else s

/-- The token of a slot as it stands in host memory (R184). -/
def State.token (s : State) (slot : Nat) : Nat := (readByte s.memory (s.area (slotOffset slot))).toNat

def tokenFree : Nat := 0
def tokenPosted : Nat := 1
def tokenTaken : Nat := 2
def tokenAnswered : Nat := 3

/-- The device state word (R163, R184): carrier, engine mode, power tier and stranded flag. -/
def State.stateWord (s : State) : Nat :=
  uplinkCode s.selector.carrier + 4 * modeCode s.selector.mode + 8 * powerTierCode s.conditions.powerTier +
    32 * boolCode s.selector.stranded

/-- The device state word is rewritten while the exchange runs (R163). -/
def State.writeStateWord (s : State) : State := s.writeAccess (s.area 0) (leBytes 4 s.stateWord)

/-! ## Notices (R171) -/

/-- The 28 bytes of a notice record's fields (R184); the last 4 of its 32 bytes belong to no field and are not written. -/
def Notice.bytes (n : Notice) (now : Word) : List Byte :=
  leBytes 1 (noticeCode n.kind) ++ leBytes 1 n.subject ++ leBytes 2 n.old ++ leBytes 2 n.new ++ leBytes 2 0 ++
    leBytes 4 now.toNat ++ leBytes 4 n.detail1 ++ leBytes 4 n.detail2 ++ leBytes 4 n.detail3 ++ leBytes 4 n.detail4

/-- The host notice read count in the header. -/
def State.readCount (s : State) : Nat := leNat (readBytes s.memory (s.area 8) 2)

/-- The unread notices: (write count − read count) modulo 65536. -/
def State.unread (s : State) : Nat := (s.exchange.writeCount - BitVec.ofNat 16 s.readCount).toNat

/-- A notice record is written, then the write count; then NOTICE is set. A failed write leaves the write count where it was. -/
def State.recordNotice (s : State) (n : Notice) : State :=
  let next := s.exchange.writeCount + 1
  let s1 := s.writeAccess (s.area (noticeOffset (s.exchange.writeCount.toNat % 128))) (n.bytes s.now)
  let s2 := s1.writeAccess (s1.area 4) (leBytes 2 next.toNat)
  if s2.running then
    { s2 with exchange := { s2.exchange with writeCount := next }, regs := s2.regs.setCause causeNotice }
  else s2

/-- A notice is discarded: counted lost, the lost count written to the header, LOST set. Where that write fails, the part's lost count has
risen and LOST is set beside FAULT: R171 and R164 leave both open (log entry 43). -/
def State.loseNotice (s : State) : State :=
  let count := bump s.exchange.lostCount
  ({ s with exchange := { s.exchange with lostCount := count }, regs := s.regs.setCause causeLost }).writeAccess
    (s.area 6) (leBytes 2 count)

/-- A notice is handed to the Exchange Unit: nothing while RUN is 0; else recorded or lost by the unread count (R171). -/
def State.raise (s : State) (n : Notice) : State :=
  if s.running then
    let s1 := s.readAccess
    if s1.running then
      (if s.unread < 128 then s1.recordNotice n else s1.loseNotice)
    else s1
  else s

/-! ## Answers (R167, R185) -/

/-- The outcomes whose answer writes no body word (R185). -/
def RequestOutcome.writesBody : RequestOutcome → Bool
  | .badParameter => false
  | .wrongMode => false
  | .unknownKind => false
  | .busy => false
  | .done | .clamped | .tierLimit | .inUse | .notFound | .cancelled | .tooLate | .superseded | .supplyFault => true

/-- The answer body of an outcome that has one is written from slot offset 16 on (R169). -/
def State.writeAnswerBody (s : State) (at' : Nat) (o : RequestOutcome) (body : List Word) : State :=
  if o.writesBody && !body.isEmpty then s.writeAccess (at' + 16) (body.flatMap wordBytes) else s

/-- The bytes of an answer in slot `slot`: the body, the outcome code, the moment, and the token ANSWERED last (R167, R169). -/
def State.writeAnswerBytes (s : State) (slot : Nat) (o : RequestOutcome) (body : List Word) : State :=
  let at' := s.area (slotOffset slot)
  let s2 := (s.writeAnswerBody at' o body).writeAccess (at' + 2) (leBytes 1 (outcomeCode o))
  let s3 := s2.writeAccess (at' + 8) (wordBytes s.now)
  s3.writeAccess at' (leBytes 1 tokenAnswered)

/-- ANSWER is asserted once the token is written, unless the exchange stopped on the way (R162, R167). -/
def State.raiseAnswer (s : State) : State := if s.running then { s with regs := s.regs.setCause causeAnswer } else s

/-- The answer is written: body, outcome and answer time, then the token ANSWERED; then the ANSWER cause is set. -/
def State.writeAnswer (s : State) (slot : Nat) (o : RequestOutcome) (body : List Word) : State :=
  (s.writeAnswerBytes slot o body).raiseAnswer

/-- To answer a request the slot's token is read again: TAKEN, and the answer is written; any other value, and it is abandoned with an
EXCHANGE_FAULT (R167, R169). Nothing is answered while the exchange is stopped. -/
def State.answer (s : State) (slot : Fin 32) (kind : Nat) (tag : Word) (o : RequestOutcome) (body : List Word) : State :=
  if s.running then
    let s1 := s.readAccess
    if s1.running then
      (if s.token slot = tokenTaken then s1.writeAnswer slot o body
       else s1.raise ⟨.exchangeFault, slot, s.token slot, 0, kind, tag.toNat, 0, outcomeCode o⟩)
    else s1
  else s

/-- The in-flight request of an operation, if there is one. -/
def State.inFlightOf (s : State) (o : TimedOwner) : Option InFlight := s.exchange.inFlight.find? (fun f => f.owner == o)

/-- A timed request joins the in-flight set (R166). -/
def State.beginTimed (s : State) (o : TimedOwner) (t : Ticket) : State :=
  { s with exchange := { s.exchange with inFlight := s.exchange.inFlight ++ [⟨o, t.slot, t.tag, true⟩] } }

/-- An operation ends: its request leaves the in-flight set, and is answered when it is still tied to its slot (R167, R168). -/
def State.endTimed (s : State) (o : TimedOwner) (outcome : RequestOutcome) (body : List Word) : State :=
  match s.inFlightOf o with
  | none => s
  | some f =>
    let s1 := { s with exchange := { s.exchange with inFlight := s.exchange.inFlight.filter (fun g => g.owner != o) } }
    if f.tied then s1.answer f.slot (timedKind o) f.tag outcome body else s1

/-! ## Walk triggers (R136, R137) -/

/-- The trigger kinds and their codes. -/
inductive TriggerKind where
  | carrierChange | usability | drainingSet | allowanceTier | powerTier | lineIdle | classApplied
deriving DecidableEq, Repr

def triggerCode : TriggerKind → Nat
  | .carrierChange => 0
  | .usability => 1
  | .drainingSet => 2
  | .allowanceTier => 3
  | .powerTier => 4
  | .lineIdle => 5
  | .classApplied => 6

def triggerBit (k : TriggerKind) : Word := 1 <<< triggerCode k

/-- A trigger begins a walk when the Walker is idle, and asks for a further pass when it runs. -/
def State.walkTrigger (s : State) (k : TriggerKind) : State :=
  { s with walk :=
    match s.walk with
    | none => some ⟨0, false, 1, 0, 0, 0, triggerBit k⟩
    | some w => some { w with passPending := true, triggers := w.triggers ||| triggerBit k } }

end Sys2Proof.Machine
end

