-- ==== Sys2Proof/Machine/Meter.lean ====
section
/-! DEFINITION. The Allowance Meter (sections 9.1 to 9.3): the tier, a deduction, a tier change. -/

namespace Sys2Proof.Machine

/-- lean_mark or scarce_mark (R147). -/
def mark (allowance frac : Nat) : Nat := allowance * frac / 256

/-- The allowance tier that A, R and the fractions give (R147). -/
def tierOf (p : MeterSettings) (remaining : Nat) : AllowanceTier :=
  if p.allowance = 0 then .normal
  else if remaining = 0 then .spent
  else if remaining ≤ mark p.allowance p.scarceFrac then .scarce
  else if remaining ≤ mark p.allowance p.leanFrac then .lean
  else .normal

/-- The limit of used and overage (R146). -/
def usedLimit : Nat := 2 ^ 48 - 1

/-- The arithmetic of one deduction of n bytes (R148). -/
def Meter.deduct (m : Meter) (n : Nat) : Meter :=
  { m with
    used := min usedLimit (m.used + n)
    remaining := m.remaining - n
    overage := if m.remaining < n then min usedLimit (m.overage + (n - m.remaining)) else m.overage }

/-- The causes of an ALLOWANCE_TIER notice (R149). -/
inductive MeterCause where
  | sent | received | setAllowance | openPeriod | setRemaining
deriving DecidableEq, Repr

def meterCauseCode : MeterCause → Nat
  | .sent => 0
  | .received => 1
  | .setAllowance => 2
  | .openPeriod => 3
  | .setRemaining => 4

/-- The tier is derived again; a change is stored, notified and delivered to the Walker (R147, R149). `n` is the deduction, else 0. -/
def State.deriveTier (s : State) (r : Radio) (cause : MeterCause) (n : Nat) : State :=
  let p := s.cfg.meters.get r
  let m := s.meter r
  let tier := tierOf p m.remaining
  if tier = m.tier then s
  else
    ((s.setMeter r { m with tier := tier }).raise
      ⟨.allowanceTier, radioCode r, allowanceTierCode m.tier, allowanceTierCode tier,
        min (m.remaining / 1024) (2 ^ 32 - 1), p.allowance / 1024, meterCauseCode cause, n⟩).walkTrigger .allowanceTier

/-- One IP datagram of on-air length n is deducted (R148). -/
def State.deduct (s : State) (r : Radio) (cause : MeterCause) (n : Nat) : State :=
  (s.setMeter r ((s.meter r).deduct n)).deriveTier r cause n

end Sys2Proof.Machine
end

