-- ==== Sys2Proof/Machine/Wire.lean ====
section
/-! DEFINITION. Frames and datagrams as bytes: reading the Ethernet, IP and UDP headers (R182), and building outer headers and the carry
header (R8, R11, R187). A `body` is a frame less its FCS. -/

namespace Sys2Proof.Machine

def etherIpv4 : Nat := 0x0800
def etherIpv6 : Nat := 0x86DD

/-- The Ethernet type of a body; a VLAN-tagged frame has 0x8100 there. -/
def etherType (body : List Byte) : Nat := beAt body 12 2

/-- The version a body's Ethernet type names, for an untagged IP frame (R111). -/
def etherVersion (body : List Byte) : Option IpVersion :=
  if 14 ≤ body.length then
    (if etherType body = etherIpv4 then some .v4 else if etherType body = etherIpv6 then some .v6 else none)
  else none

/-- The bytes after the Ethernet header. -/
def etherPayload (body : List Byte) : List Byte := body.drop 14

/-- The version field of an IP header. -/
def ipVersionField (ip : List Byte) : Nat := (byteAt ip 0).toNat / 16

/-- The header length an IPv4 header gives, in bytes. -/
def ipv4HeaderLength (ip : List Byte) : Nat := (byteAt ip 0).toNat % 16 * 4

/-- The fragment offset of an IPv4 header. -/
def ipv4FragmentOffset (ip : List Byte) : Nat := beAt ip 6 2 % 8192

/-- The more-fragments flag of an IPv4 header. -/
def ipv4MoreFragments (ip : List Byte) : Bool := (byteAt ip 6).getLsbD 5

def protocolTcp : Nat := 6
def protocolUdp : Nat := 17
def protocolIcmp : Nat := 1
def protocolIcmpV6 : Nat := 58
/-- The next-header value of an IPv6 fragment header. -/
def headerFragment : Nat := 44

/-- The DSCP of an untagged IP frame: the upper six bits of its type-of-service byte or traffic class (R8, R113). -/
def frameDscp (body : List Byte) : Nat :=
  match etherVersion body with
  | some .v4 => (byteAt body 15).toNat / 4
  | some .v6 => ((byteAt body 14).toNat % 16 * 16 + (byteAt body 15).toNat / 16) / 4
  | none => 0

/-! ## The carry header (R187) -/

def carryHeaderLength : Nat := 16
def kindFrame : Nat := 1
def kindProbe : Nat := 2
def kindEcho : Nat := 3

/-- The fields of a carry header. -/
structure CarryHeader where
  version  : Nat
  kind     : Nat
  path     : Nat
  cls      : Nat
  part     : Nat
  sequence : Word
  siteId   : Word
  probeSeq : BitVec 16
  nonce    : BitVec 16
deriving DecidableEq, Repr

/-- The 16 bytes of a carry header. -/
def CarryHeader.bytes (h : CarryHeader) : List Byte :=
  beBytes 1 (16 * h.version + h.kind) ++ beBytes 1 h.path ++ beBytes 1 h.cls ++ beBytes 1 h.part ++
    beBytes 4 h.sequence.toNat ++ beBytes 4 h.siteId.toNat ++ beBytes 2 h.probeSeq.toNat ++ beBytes 2 h.nonce.toNat

/-- The carry header that a UDP payload begins with. -/
def readCarryHeader (p : List Byte) : CarryHeader where
  version := (byteAt p 0).toNat / 16
  kind := (byteAt p 0).toNat % 16
  path := (byteAt p 1).toNat
  cls := (byteAt p 2).toNat
  part := (byteAt p 3).toNat
  sequence := BitVec.ofNat 32 (beAt p 4 4)
  siteId := BitVec.ofNat 32 (beAt p 8 4)
  probeSeq := BitVec.ofNat 16 (beAt p 12 2)
  nonce := BitVec.ofNat 16 (beAt p 14 2)

/-! ## Building outer datagrams (R8) -/

/-- The overhead: outer IP, UDP and carry headers (section 1.4). -/
def overhead (v : IpVersion) : Nat :=
  match v with
  | .v4 => 44
  | .v6 => 64

/-- The pseudo-header of the UDP checksum (R182). -/
def udpPseudo (v : IpVersion) (src dst : Address) (udpLength : Nat) : List Byte :=
  wireAddress v src ++ wireAddress v dst ++ beBytes 2 protocolUdp ++ beBytes 4 udpLength

/-- The UDP checksum of R182: over the pseudo-header, the UDP header with its checksum field 0, and the payload. -/
def udpChecksum (v : IpVersion) (src dst : Address) (srcPort dstPort : Nat) (payload : List Byte) : Nat :=
  let n := 8 + payload.length
  checksum (udpPseudo v src dst n ++ beBytes 2 srcPort ++ beBytes 2 dstPort ++ beBytes 2 n ++ beBytes 2 0 ++ payload)

/-- The UDP datagram of a record: checksum 0 on IPv4, computed on IPv6 (R8). -/
def outerUdp (c : AddressRecord) (payload : List Byte) : List Byte :=
  let sum := match c.version with
    | .v4 => 0
    | .v6 => udpChecksum .v6 c.localAddress c.remoteAddress c.localPort.toNat c.remotePort.toNat payload
  beBytes 2 c.localPort.toNat ++ beBytes 2 c.remotePort.toNat ++ beBytes 2 (8 + payload.length) ++ beBytes 2 sum ++ payload

/-- The IPv4 header of a record with its checksum field as given (R8). -/
def outerIpv4Header (c : AddressRecord) (service total sum : Nat) : List Byte :=
  [0x45] ++ beBytes 1 service ++ beBytes 2 total ++ beBytes 2 0 ++ beBytes 2 0x4000 ++ [64, 17] ++ beBytes 2 sum ++
    wireAddress .v4 c.localAddress ++ wireAddress .v4 c.remoteAddress

/-- The outer IP datagram of a record (R8). `service` is the type-of-service byte or traffic class. -/
def outerDatagram (c : AddressRecord) (service : Nat) (payload : List Byte) : List Byte :=
  let udp := outerUdp c payload
  match c.version with
  | .v4 =>
    let total := 20 + udp.length
    outerIpv4Header c service total (checksum (outerIpv4Header c service total 0)) ++ udp
  | .v6 =>
    beBytes 4 (0x60000000 + 0x100000 * (service % 256)) ++ beBytes 2 udp.length ++ [17, 64] ++
      wireAddress .v6 c.localAddress ++ wireAddress .v6 c.remoteAddress ++ udp

/-- The type-of-service byte: the DSCP of R8 and the two bits R8 leaves open (log entry 10). -/
def serviceByte (inner : List Byte) : Nat := frameDscp inner * 4 + (Config.outerEcn inner).toNat

/-- A body padded to 60 bytes (R14; log entries 11 and 13). -/
def padTo60 (body : List Byte) : List Byte := body ++ (List.range (60 - body.length)).map (Config.padByte body)

/-- The Ethernet frame around an outer datagram (R4, R8). -/
def outerFrame (o : Port) (c : AddressRecord) (datagram : List Byte) : List Byte :=
  withFcs (padTo60 (beBytes 6 c.nextHop.toNat ++ beBytes 6 (Config.stationAddress o).toNat ++
    beBytes 2 (match c.version with
      | .v4 => etherIpv4
      | .v6 => etherIpv6) ++ datagram))

/-! ## Checking received datagrams (R12, R17) -/

/-- The on-air length of a received datagram: the length its own header states; when that is more than the frame holds after its
Ethernet header, or the header is too short to state one, what the frame holds there less its 4-byte FCS (R148). `ip` is what follows
the Ethernet header less the FCS, so the frame holds `ip.length + 4` bytes there; a header is too short to state a length when its
length field does not lie in `ip` (log entry 40). -/
def receivedLength (v : IpVersion) (ip : List Byte) : Nat :=
  match v with
  | .v4 =>
    if ip.length < 4 then ip.length
    else if ip.length + 4 < beAt ip 2 2 then ip.length else beAt ip 2 2
  | .v6 =>
    if ip.length < 6 then ip.length
    else if ip.length + 4 < 40 + beAt ip 4 2 then ip.length else 40 + beAt ip 4 2

/-- The UDP datagram inside an IP datagram that is no fragment, or none: version field, header and protocol (R12 checks 2 to 5, R17). An
IPv4 header-length field below 20 bytes or above what the frame holds, and an IPv6 header that the frame does not hold whole, are none of
the tests that R12 and R17 list: the model's choice is that they fail, a carry discard on RA and RB and no echo on F (log entry 41). -/
def udpInside (v : IpVersion) (ip : List Byte) : Option (List Byte) :=
  match v with
  | .v4 =>
    let h := ipv4HeaderLength ip
    if ipVersionField ip = 4 && decide (20 ≤ h) && decide (h ≤ ip.length) && !ipv4MoreFragments ip &&
        ipv4FragmentOffset ip = 0 && (byteAt ip 9).toNat = protocolUdp then
      some ((ip.take (receivedLength .v4 ip)).drop h)
    else none
  | .v6 =>
    if ipVersionField ip = 6 && decide (40 ≤ ip.length) && (byteAt ip 6).toNat ≠ headerFragment &&
        (byteAt ip 6).toNat = protocolUdp then
      some ((ip.take (receivedLength .v6 ip)).drop 40)
    else none

def ipSource (v : IpVersion) (ip : List Byte) : Address :=
  match v with
  | .v4 => addressOfWire .v4 (slice ip 12 4)
  | .v6 => addressOfWire .v6 (slice ip 8 16)

def ipDest (v : IpVersion) (ip : List Byte) : Address :=
  match v with
  | .v4 => addressOfWire .v4 (slice ip 16 4)
  | .v6 => addressOfWire .v6 (slice ip 24 16)

/-- The payload of a UDP datagram of at least 16 payload bytes whose length field lies within the datagram (R12 check 7; log entry 14). -/
def udpPayload (udp : List Byte) : Option (List Byte) :=
  let n := beAt udp 4 2
  if 8 + carryHeaderLength ≤ n && n ≤ udp.length then some ((udp.take n).drop 8) else none

/-- Check 6 of R12: a non-zero UDP checksum is correct, and zero fails on IPv6. -/
def udpChecksumOk (v : IpVersion) (src dst : Address) (udp payload : List Byte) : Bool :=
  let sum := beAt udp 6 2
  if sum = 0 then v = .v4
  else sum = udpChecksum v src dst (beAt udp 0 2) (beAt udp 2 2) payload

/-- Check 3 of R12, for IPv4: the header checksum is that of the header with its checksum field 0. -/
def ipv4ChecksumOk (ip : List Byte) : Bool :=
  let h := ip.take (ipv4HeaderLength ip)
  beAt ip 10 2 = checksum (h.take 10 ++ [0, 0] ++ h.drop 12)

/-- The carry payload of an outer datagram that passes the checks of R12, or none. -/
def carryPayload (c : AddressRecord) (v : IpVersion) (ip : List Byte) : Option (List Byte) :=
  if v = c.version && ipDest v ip = c.localAddress && (v = .v6 || ipv4ChecksumOk ip) then
    match udpInside v ip with
    | none => none
    | some udp =>
      if beAt udp 2 2 = c.localPort.toNat then
        match udpPayload udp with
        | none => none
        | some payload => if udpChecksumOk v (ipSource v ip) (ipDest v ip) udp payload then some payload else none
      else none
  else none

/-- The carry payload of a frame on F that may be an echo (R17): no checksum is among the tests. -/
def fibreCarryPayload (c : AddressRecord) (body : List Byte) : Option (List Byte) :=
  match etherVersion body with
  | none => none
  | some v =>
    let ip := etherPayload body
    if v = c.version && ipDest v ip = c.localAddress then
      match udpInside v ip with
      | none => none
      | some udp => if beAt udp 2 2 = c.localPort.toNat then udpPayload udp else none
    else none

/-! ## Keys (R111, R112, R119) -/

/-- The ports of a key: the first four bytes after the IP header, when there is a transport header to read (R111). `rest` is what the
frame holds after that header without its FCS (log entry 40). -/
def keyPorts (protocol : Nat) (first : Bool) (rest : List Byte) : BitVec 16 × BitVec 16 :=
  if (protocol = protocolTcp || protocol = protocolUdp) && first && decide (4 ≤ rest.length) then
    (BitVec.ofNat 16 (beAt rest 0 2), BitVec.ofNat 16 (beAt rest 2 2))
  else (0, 0)

/-- The key of a body, or none when the frame is unkeyed (R111, R112). Whether the 4-byte FCS counts among the bytes of R112's 'shorter
than' and R111's 'at least 4 bytes' is open; the model measures the body, without it (log entry 40). -/
def keyOf (body : List Byte) : Option FlowKey :=
  let ip := etherPayload body
  match etherVersion body with
  | none => none
  | some .v4 =>
    let h := ipv4HeaderLength ip
    if ipVersionField ip = 4 && decide (20 ≤ h) && decide (h ≤ ip.length) then
      let protocol := byteAt ip 9
      let ports := keyPorts protocol.toNat (ipv4FragmentOffset ip = 0) (ip.drop h)
      some ⟨.v4, ipSource .v4 ip, ipDest .v4 ip, protocol, ports.1, ports.2⟩
    else none
  | some .v6 =>
    if ipVersionField ip = 6 && decide (40 ≤ ip.length) then
      let protocol := byteAt ip 6
      let ports := keyPorts protocol.toNat true (ip.drop 40)
      some ⟨.v6, ipSource .v6 ip, ipDest .v6 ip, protocol, ports.1, ports.2⟩
    else none

/-- A key with source and destination exchanged (R119). -/
def FlowKey.reversed (k : FlowKey) : FlowKey :=
  { k with source := k.dest, dest := k.source, srcPort := k.dstPort, dstPort := k.srcPort }

end Sys2Proof.Machine
end

