-- ==== Sys2Proof/Machine/Framer.lean ====
section
/-! DEFINITION. Sending on the ports and the Carry Framer's state (chapter 1): wrapping and splitting, the carry sequence, the
reassembly lists and the discard counters. -/

namespace Sys2Proof.Machine

/-- A frame leaves a port. -/
def State.send (s : State) (o : Port) (frame : List Byte) : State := { s with wire := s.wire ++ [(o, frame)] }

/-- A carry datagram leaves an uplink's port, and a radio's is deducted by its on-air length (R6 stages 6 and 7, R11, R148). -/
def State.sendDatagram (s : State) (u : Uplink) (c : AddressRecord) (service : Nat) (payload : List Byte) : State :=
  let datagram := outerDatagram c service payload
  let s1 := s.send u.port (outerFrame u.port c datagram)
  match u.radio? with
  | none => s1
  | some r => s1.deduct r .sent datagram.length

/-- The carry sequence that the next datagram on an uplink takes; fibre has no counter (R9). -/
def State.carrySequence (s : State) (u : Uplink) : Word :=
  match u.radio? with
  | none => 0
  | some r => (s.framer r).sequence

/-- The counter advances by 1 (R9). -/
def State.advanceSequence (s : State) (u : Uplink) : State :=
  match u.radio? with
  | none => s
  | some r => s.setFramer r { s.framer r with sequence := (s.framer r).sequence + 1 }

/-! ## Frames on a radio (R8 to R10) -/

/-- The frame is split: its whole on-air length exceeds the link limit (R10). -/
def splits (v : IpVersion) (limit inner : Nat) : Bool := decide (limit < inner + overhead v)

/-- The on-air length the policer judges a frame by (R10). -/
def onAirLength (v : IpVersion) (limit inner : Nat) : Nat :=
  if splits v limit inner then inner + 2 * overhead v else inner + overhead v

/-- The parts of an inner frame by part number: itself, or a first part that fills the link limit and the rest (R10). -/
def framePieces (v : IpVersion) (limit : Nat) (inner : List Byte) : List (Nat × List Byte) :=
  if splits v limit inner.length then
    [(1, inner.take (limit - overhead v)), (2, inner.drop (limit - overhead v))]
  else [(0, inner)]

/-- The carry header of a FRAME (R8). -/
def frameHeader (r : Radio) (cls : TrafficClass) (part : Nat) (sequence siteId : Word) : CarryHeader :=
  ⟨1, kindFrame, radioCode r, classCode cls, part, sequence, siteId, 0, 0⟩

/-- An upstream frame is wrapped in one or two carry datagrams of the same sequence, and they are sent and deducted in turn
(R6 stages 5 to 7, R8, R9, R10). -/
def State.sendWrapped (s : State) (r : Radio) (c : AddressRecord) (cls : TrafficClass) (inner : List Byte) : State :=
  let sequence := (s.framer r).sequence
  (framePieces c.version (s.cfg.linkLimits.get r) inner).foldl
    (fun t piece => t.sendDatagram r.uplink c (serviceByte inner)
      ((frameHeader r cls piece.1 sequence s.cfg.siteId).bytes ++ piece.2))
    (s.advanceSequence r.uplink)

/-! ## Probes (R11) -/

/-- The carry header of a PROBE (R11). -/
def probeHeader (u : Uplink) (sequence siteId : Word) (probeSeq nonce : BitVec 16) : CarryHeader :=
  ⟨1, kindProbe, uplinkCode u, 0, 0, sequence, siteId, probeSeq, nonce⟩

/-- A probe leaves on its uplink: it takes the carry sequence, and on a radio it is deducted (R9, R11). -/
def State.sendProbeDatagram (s : State) (u : Uplink) (probeSeq nonce : BitVec 16) : State :=
  match s.cfg.records.get u with
  | none => s
  | some c =>
    (s.advanceSequence u).sendDatagram u c (Config.outerEcn []).toNat
      (probeHeader u (s.carrySequence u) s.cfg.siteId probeSeq nonce).bytes

/-! ## Discards and the reassembly list (R14 to R16) -/

def State.countCarryDiscard (s : State) (r : Radio) : State :=
  s.setFramer r { s.framer r with carryDiscards := bump (s.framer r).carryDiscards }

/-- How long a held part waits for its partner, in ms (R16). -/
def partWait : Nat := 250

/-- The reassembly list has 4 slots (R15). -/
def partSlots : Nat := 4

def otherPart : SplitPart → SplitPart
  | .first => .second
  | .second => .first

def holds (held : List HeldPart) (sequence : Word) (part : SplitPart) : Bool :=
  held.any (fun h => h.sequence == sequence && h.part == part)

def without (held : List HeldPart) (sequence : Word) (part : SplitPart) : List HeldPart :=
  held.filter (fun h => !(h.sequence == sequence && h.part == part))

/-- A frame joined from its two parts is 14 to 1514 bytes long, or is discarded (R13, R15). -/
def innerLengthOk (n : Nat) : Bool := decide (14 ≤ n) && decide (n ≤ 1514)

/-- What a part does at the list: the list's new state for the radio and the joined frame to hand on, if any (R15). -/
def RadioFramer.takePart (f : RadioFramer) (p : HeldPart) : RadioFramer × Option (List Byte) :=
  if holds f.held p.sequence p.part then ({ f with reassemblyDiscards := bump f.reassemblyDiscards }, none)
  else
    match f.held.find? (fun h => h.sequence == p.sequence && h.part == (otherPart p.part)) with
    | some partner =>
      let rest := without f.held p.sequence (otherPart p.part)
      let joined := match p.part with
        | .first => p.inner ++ partner.inner
        | .second => partner.inner ++ p.inner
      if innerLengthOk joined.length then ({ f with held := rest }, some joined)
      else ({ f with held := rest, reassemblyDiscards := bump f.reassemblyDiscards }, none)
    | none =>
      if f.held.length < partSlots then ({ f with held := f.held ++ [p] }, none)
      else ({ f with held := f.held.tail ++ [p], reassemblyDiscards := bump f.reassemblyDiscards }, none)

/-- An addressing change empties the list and counts each held part (R5). -/
def RadioFramer.emptied (f : RadioFramer) : RadioFramer :=
  { f with held := [], reassemblyDiscards := bumpBy f.held.length f.reassemblyDiscards }

/-- A held part whose 250 ms are over is discarded and counted (R16). -/
def RadioFramer.expirePart (f : RadioFramer) (now : Word) (sequence : Word) (part : SplitPart) : RadioFramer :=
  if f.held.any (fun h => h.sequence == sequence && h.part == part && reached now (h.arrived + BitVec.ofNat 32 partWait)) then
    { f with held := without f.held sequence part, reassemblyDiscards := bump f.reassemblyDiscards }
  else f

end Sys2Proof.Machine
end

