-- ==== Sys2Proof/Machine/Judge.lean ====
section
/-! DEFINITION. The Uplink Judge (chapter 5): window, smoothed delay, runs, verdict, merit, flap penalty, suppression, usable. -/

namespace Sys2Proof.Machine

/-! ## The arithmetic of one uplink -/

/-- L, the LOST outcomes held (R71). -/
def lostIn (window : List ProbeResult) : Nat := window.countP (· == .lost)

/-- The window stage (R71): the newest outcome joins, and the oldest of 32 leaves. -/
def pushOutcome (window : List ProbeResult) (o : ProbeResult) : List ProbeResult :=
  (if 32 ≤ window.length then window.tail else window) ++ [o]

/-- The largest RTT sample, in µs (R72). -/
def sampleLimit : Nat := 2000000

/-- The smoothed delay after a sample (R72): an eighth of the difference, truncated toward zero. -/
def smooth (srtt : Option Nat) (rtt : Nat) : Nat :=
  let sample := min rtt sampleLimit
  match srtt with
  | none => sample
  | some old => if old ≤ sample then old + (sample - old) / 8 else old - (old - sample) / 8

/-- DL in µs (section 5.1). -/
def JudgeSettings.delayMicros (p : JudgeSettings) : Nat := p.delayLimit * 1000

/-- srtt ≤ bound, false while srtt is void (R74). -/
def srttAtMost (srtt : Option Nat) (bound : Nat) : Bool :=
  match srtt with
  | none => false
  | some x => decide (x ≤ bound)

/-- srtt > bound, false while srtt is void (R74). -/
def srttAbove (srtt : Option Nat) (bound : Nat) : Bool :=
  match srtt with
  | none => false
  | some x => decide (bound < x)

/-- Runs stop at 32 (R73). -/
def runUp (n : Nat) : Nat := min 32 (n + 1)

/-- The window, smoothed delay and runs stages on one outcome (R71 to R73). `rtt` is read on ANSWERED only. -/
def Judgement.observe (j : Judgement) (o : ProbeResult) (rtt : Nat) : Judgement :=
  match o with
  | .answered =>
    { j with
      window := pushOutcome j.window .answered
      srtt := some (smooth j.srtt rtt)
      runAnswered := runUp j.runAnswered
      runLost := 0 }
  | .lost =>
    { j with
      window := pushOutcome j.window .lost
      runAnswered := 0
      runLost := runUp j.runLost }

/-- The failure test of every row of R74. -/
def Judgement.failing (j : Judgement) (p : JudgeSettings) : Bool :=
  decide (p.failRun ≤ j.runLost) || decide (p.failLoss ≤ lostIn j.window)

/-- What the verdict stage decides: the verdict stays, a failure is renewed, or the verdict changes (R74, R75). -/
inductive VerdictMove where
  | stay | renew
  | to (v : Verdict)
deriving DecidableEq, Repr

/-- The verdict of a recovery (R74). -/
def Judgement.recovered (j : Judgement) (p : JudgeSettings) : Verdict :=
  if lostIn j.window ≤ p.goodLoss && srttAtMost j.srtt p.delayMicros then .good else .poor

/-- The verdict stage (R74). `mayRecover` holds the two further terms of fibre's recovery rows; true for a radio. -/
def Judgement.verdictStage (j : Judgement) (p : JudgeSettings) (mayRecover : Bool) : VerdictMove :=
  match j.verdict with
  | .unknown =>
    if j.failing p then .to .failed
    else if decide (p.recoverRun ≤ j.runAnswered) && mayRecover then .to (j.recovered p) else .stay
  | .good =>
    if j.failing p then .to .failed
    else if decide (p.goodLoss < lostIn j.window) || srttAbove j.srtt p.delayMicros then .to .poor else .stay
  | .poor =>
    if j.failing p then .to .failed
    else if decide (lostIn j.window ≤ p.goodLoss) && srttAtMost j.srtt (p.delayMicros - p.delayMicros / 8) then .to .good
    else .stay
  | .failed =>
    if j.failing p then .renew
    else if decide (p.recoverRun ≤ j.runAnswered) && mayRecover then .to (j.recovered p) else .stay

/-- loss_term of R76, for F ≥ 1. -/
def lossTerm (lost held : Nat) : Nat := lost * 600 / held

/-- delay_term of R76. -/
def delayTerm (srtt : Option Nat) (delayMicros : Nat) : Nat :=
  match srtt with
  | none => 400
  | some x => min x (2 * delayMicros) * 400 / (2 * delayMicros)

/-- The merit stage (R76). -/
def Judgement.meritStage (j : Judgement) (p : JudgeSettings) : Option Nat :=
  if j.window.length = 0 then none
  else some (1000 - lossTerm (lostIn j.window) j.window.length - delayTerm j.srtt p.delayMicros)

/-- The window, runs, srtt and merit are emptied (R75, R80, R87). -/
def Judgement.cleared (j : Judgement) : Judgement :=
  { j with window := [], srtt := none, runAnswered := 0, runLost := 0, merit := none }

/-- The flap penalty after a failure of a working uplink (R82). -/
def penaltyAdd (penalty : Nat) : Nat := min 16000 (penalty + 1000)

/-- The flap penalty after a decay (R83). -/
def penaltyDecay (penalty d : Nat) : Nat := penalty - max 1 (penalty * d / 65536)

/-- GOOD or POOR (R75, R86). -/
def verdictWorks : Verdict → Bool
  | .good => true
  | .poor => true
  | .unknown => false
  | .failed => false

/-! ## Usable (R86) -/

/-- The F port link is UP and OPTICAL_LOSS is deasserted (R74, R81, R86). -/
def State.fibreLit (s : State) : Bool := s.links.f && !s.level .opticalLoss

/-- The terms of the usable decision as they stand (R86). -/
def State.usableTerms (s : State) (u : Uplink) : Bool :=
  let j := s.judge u
  match u.radio? with
  | none => verdictWorks j.verdict && !j.suppressed && s.fibreLit
  | some r => (s.radio r).state.ready && !(s.radio r).draining && verdictWorks j.verdict && !j.suppressed

/-- The usable decision is worked out anew; a change is delivered to the Walker and the Selector (R86). -/
def State.refreshUsable (s : State) (u : Uplink) : State :=
  let now := s.usableTerms u
  if now = (s.judge u).usable then s
  else (((s.setJudge u { s.judge u with usable := now }).walkTrigger .usability).emit (.usability u now))

/-! ## Verdict changes -/

/-- The causes of a VERDICT notice (R90). -/
inductive VerdictCause where
  | outcome | thresholds | opticalLoss | linkDown | readyLost | radioReady | radioOff | addressing | fibreLevels
deriving DecidableEq, Repr

def verdictCauseCode : VerdictCause → Nat
  | .outcome => 0
  | .thresholds => 1
  | .opticalLoss => 2
  | .linkDown => 3
  | .readyLost => 4
  | .radioReady => 5
  | .radioOff => 6
  | .addressing => 7
  | .fibreLevels => 8

/-- A SUPPRESSION notice (R91); causes ADD 0, DECAY 1, LEVELS 2. -/
def State.raiseSuppression (s : State) (u : Uplink) (cause : Nat) : State :=
  let j := s.judge u
  let p := s.cfg.judges.get u
  s.raise ⟨.suppression, uplinkCode u, boolCode (!j.suppressed), boolCode j.suppressed, j.penalty, p.suppress, p.reuse, cause⟩

/-- The judgement record after a change to another verdict: entering FAILED empties it, and from a working verdict adds the flap
penalty, starts the decay timer when the penalty was 0, and may set suppression (R75, R82). `penalise` is false where the change
counts as made from UNKNOWN (R81, R87). -/
def Judgement.withVerdict (j : Judgement) (v : Verdict) (penalise : Bool) (suppress : Nat) (decayDue : Word) : Judgement :=
  if v = .failed then
    (if penalise && verdictWorks j.verdict then
      { j.cleared with
        verdict := .failed
        penalty := penaltyAdd j.penalty
        decayTimer := if j.penalty = 0 then some decayDue else j.decayTimer
        suppressed := j.suppressed || decide (suppress ≤ penaltyAdd j.penalty) }
     else { j.cleared with verdict := .failed })
  else { j with verdict := v }

/-- A change of an uplink's verdict and what follows it (R75, R77, R82, R90): nothing when the verdict is the present one. The
decision of R86 is worked out before the deliveries are taken, so that the first of them finds the new state (R93; log entry 3). -/
def State.changeVerdict (s : State) (u : Uplink) (v : Verdict) (cause : VerdictCause) (penalise : Bool) : State :=
  let j := s.judge u
  if j.verdict = v then s
  else
    let j' := j.withVerdict v penalise (s.cfg.judges.get u).suppress (s.after 1000)
    let s1 := (s.setJudge u j').refreshUsable u
    let s2 := s1.raise ⟨.verdict, uplinkCode u, verdictCode j.verdict, verdictCode v, verdictCauseCode cause, j'.penalty,
      lostIn j.window, j.window.length⟩
    if j'.suppressed = j.suppressed then s2.emit .evaluate
    else ((s2.raiseSuppression u 0).emit .evaluate).emit .evaluate

/-- The window, runs, srtt and merit of an uplink are emptied. -/
def State.clearJudge (s : State) (u : Uplink) : State := s.setJudge u (s.judge u).cleared

/-- The failure of an uplink is renewed (R75). -/
def State.renewFailure (s : State) (u : Uplink) : State := s.clearJudge u

/-- The decided move is made. -/
def State.applyMove (s : State) (u : Uplink) (cause : VerdictCause) : VerdictMove → State
  | .stay => s
  | .renew => s.renewFailure u
  | .to v => s.changeVerdict u v cause true

/-- The recovery terms beside the runs: two for fibre, none for a radio (R74). -/
def State.mayRecover (s : State) (u : Uplink) : Bool :=
  match u.radio? with
  | none => s.fibreLit
  | some _ => true

/-- The Judge takes one outcome (section 5.2): window, smoothed delay, runs, verdict, merit, delivery. -/
def State.takeOutcome (s : State) (u : Uplink) (o : ProbeResult) (rtt : Nat) : State :=
  let p := s.cfg.judges.get u
  let j := (s.judge u).observe o rtt
  let s1 := s.setJudge u { j with merit := j.meritStage p }
  s1.applyMove u .outcome (j.verdictStage p (s.mayRecover u))

/-- An event that puts an uplink to FAILED directly (R78, R79), and the usable decision after it (R86). -/
def State.failUplink (s : State) (u : Uplink) (cause : VerdictCause) : State :=
  (if (s.judge u).verdict = .failed then s.renewFailure u else s.changeVerdict u .failed cause true).refreshUsable u

/-- A radio's judgement is reset without penalty: it became ready or entered OFF (R80). The notice of the verdict change carries L and F
as they stood before the emptying (R90). -/
def State.resetJudgement (s : State) (r : Radio) (cause : VerdictCause) : State :=
  ((s.changeVerdict r.uplink .unknown cause false).clearJudge r.uplink).refreshUsable r.uplink

/-- The verdict R81 derives for unprobed fibre. -/
def State.derivedFibre (s : State) : Verdict := if s.fibreLit then .good else .failed

/-- The derivation of unprobed fibre (R81). -/
def State.deriveFibre (s : State) (cause : VerdictCause) (penalise : Bool) : State :=
  (s.changeVerdict .fibre s.derivedFibre cause penalise).refreshUsable .fibre

/-- A link event on F or a filtered change of OPTICAL_LOSS, at the Judge (R78, R81, R86). `fails` is a link-down or an assertion. -/
def State.fibreEvent (s : State) (fails : Bool) (cause : VerdictCause) : State :=
  if s.configured .fibre then (if fails then s.failUplink .fibre cause else s.refreshUsable .fibre)
  else s.deriveFibre cause true

/-! ## SET_UPLINK at the Judge (R87, R88, R85) -/

/-- An addressing change (R87). A clear of the fibre record takes the derived value "as set from UNKNOWN", which settles the penalty; which
old code its VERDICT then carries is not said: the model gives the verdict before the request, and no notice where the derived verdict
equals that one (log entry 44). -/
def State.judgeAddressing (s : State) (u : Uplink) : State :=
  ((if u = .fibre && !s.configured .fibre then s.changeVerdict .fibre s.derivedFibre .fibreLevels false
    else s.changeVerdict u .unknown .addressing false).clearJudge u).refreshUsable u

/-- The thresholds whose change causes a re-judge (R88). -/
def sameThresholds (p q : JudgeSettings) : Bool :=
  p.failRun == q.failRun && p.failLoss == q.failLoss && p.goodLoss == q.goodLoss && p.recoverRun == q.recoverRun &&
    p.delayLimit == q.delayLimit

/-- The re-judge (R88): the verdict stage once on the present window, runs and srtt, and the merit stage. -/
def State.reJudge (s : State) (u : Uplink) : State :=
  let p := s.cfg.judges.get u
  let j := s.judge u
  let s1 := s.setJudge u { j with merit := j.meritStage p }
  s1.applyMove u .thresholds (j.verdictStage p (s.mayRecover u))

/-- The suppressed flag takes a new value outside a failure: a notice, a delivery and a fresh decision (R84, R85). -/
def State.setSuppressed (s : State) (u : Uplink) (b : Bool) (cause : Nat) : State :=
  (((s.setJudge u { s.judge u with suppressed := b }).refreshUsable u).raiseSuppression u cause).emit .evaluate

/-- The suppression test against new levels (R85). -/
def State.testSuppression (s : State) (u : Uplink) : State :=
  let j := s.judge u
  let p := s.cfg.judges.get u
  if j.suppressed then (if j.penalty ≤ p.reuse then s.setSuppressed u false 2 else s)
  else (if p.suppress ≤ j.penalty then s.setSuppressed u true 2 else s)

/-! ## Decay (R83, R84) -/

/-- A run-out of the decay timer. -/
def State.decayPenalty (s : State) (u : Uplink) : State :=
  let j := s.judge u
  let p := s.cfg.judges.get u
  let penalty := penaltyDecay j.penalty p.decay
  let s1 := s.setJudge u { j with penalty := penalty, decayTimer := if penalty = 0 then none else some (s.after 1000) }
  if j.suppressed && decide (penalty ≤ p.reuse) then s1.setSuppressed u false 1 else s1

end Sys2Proof.Machine
end

