-- ==== Sys2Proof/Machine/Probes.lean ====
section
/-! DEFINITION. The Probe Engine (chapter 4): eligibility, sending, the outstanding list, echoes, bursts. -/

namespace Sys2Proof.Machine

/-! ## Eligibility and the probe timer -/

/-- The uplink is eligible for probing at this moment (R53). -/
def State.eligible (s : State) (u : Uplink) : Bool :=
  match u.radio? with
  | none => s.links.f && s.configured .fibre
  | some r =>
    s.links.get r.port && s.configured u && (s.radio r).state.ready &&
      ((s.meter r).tier != .spent || (s.radio r).state == .carrying)

/-- The power tier multiplier of the standby interval (R54). -/
def tierMultiplier : PowerTier → Nat
  | .mains => 1
  | .battery => 2
  | .reserve => 4

/-- The interval a re-arm of the probe timer chooses, in ms (R54). -/
def State.probeInterval (s : State) (u : Uplink) : Nat :=
  let p := s.cfg.probes.get u
  match u.radio? with
  | none => p.carrying
  | some r =>
    if (s.radio r).state = .carrying || (s.judge u).verdict = .unknown || (s.judge u).verdict = .failed then p.carrying
    else p.standby * tierMultiplier s.conditions.powerTier

def State.armProbe (s : State) (u : Uplink) (due : Word) : State := s.setProber u { s.prober u with timer := some due }

/-! ## Counters -/

def ProbeCounters.countSent (c : ProbeCounters) : ProbeCounters := { c with sent := bump c.sent }
def ProbeCounters.countAnswered (c : ProbeCounters) : ProbeCounters := { c with answered := bump c.answered }
def ProbeCounters.countLost (c : ProbeCounters) : ProbeCounters := { c with lost := bump c.lost }
def ProbeCounters.countLate (c : ProbeCounters) : ProbeCounters := { c with late := bump c.late }
def ProbeCounters.countDiscarded (c : ProbeCounters) : ProbeCounters := { c with discarded := bump c.discarded }

/-! ## Bursts: the tally and the end (R65, R66) -/

/-- A marked entry answered (R65). -/
def Burst.tallyAnswered (b : Burst) (rtt : Nat) : Burst :=
  { b with answered := b.answered + 1, sum := b.sum + rtt, smallest := if b.answered = 0 then rtt else min b.smallest rtt }

/-- A marked entry lost (R65). -/
def Burst.tallyLost (b : Burst) : Burst := { b with lost := b.lost + 1 }

/-- The answer words of PROBE_BURST (R65, section 12.4). -/
def Burst.words (b : Burst) (u : Uplink) : List Word :=
  [bytesWord (uplinkCode u) b.count b.sent 0, halves b.answered b.lost,
    word (if b.answered = 0 then 0 else b.smallest), word (if b.answered = 0 then 0 else b.sum / b.answered)]

/-- The burst record becomes idle and its request is answered (R65, R66, R67). -/
def State.finishBurst (s : State) (u : Uplink) (b : Burst) (o : RequestOutcome) : State :=
  (s.setProber u { s.prober u with burst := none }).endTimed (.burst u) o (b.words u)

/-- A burst ends when no burst probe is due and no marked entry remains (R65). -/
def State.checkBurst (s : State) (u : Uplink) : State :=
  match (s.prober u).burst with
  | none => s
  | some b =>
    if b.nextDue.isNone && !(s.prober u).outstanding.any (·.marked) then s.finishBurst u b (doneOrClamped b.clamped) else s

/-- The running burst's record is changed, when there is one and the entry was marked. -/
def Prober.tally (p : Prober) (marked : Bool) (f : Burst → Burst) : Prober :=
  if marked then { p with burst := p.burst.map f } else p

/-! ## Resolving entries (R57, R58) -/

/-- The entry with a probe sequence. -/
def Prober.entry (p : Prober) (sequence : BitVec 16) : Option Outstanding :=
  p.outstanding.find? (fun e => e.sequence == sequence)

/-- The entry with a probe sequence is removed. -/
def Prober.remove (p : Prober) (sequence : BitVec 16) : Prober :=
  { p with outstanding := p.outstanding.filter (fun e => e.sequence != sequence) }

/-- An entry is resolved LOST: removed, counted, tallied, and its outcome handed to the Judge (R57, R65). The answer of a burst that ends
with it is written after the notices of the outcome, an order R65 leaves open (log entry 39). -/
def State.resolveLost (s : State) (u : Uplink) (e : Outstanding) : State :=
  let p := (s.prober u).remove e.sequence
  let p1 := { p with counters := p.counters.countLost }
  ((s.setProber u (p1.tally e.marked Burst.tallyLost)).takeOutcome u .lost 0).checkBurst u

/-- An entry whose due time is reached in the microsecond count expires (R57). -/
def State.expireProbe (s : State) (u : Uplink) (sequence : BitVec 16) : State :=
  match (s.prober u).entry sequence with
  | none => s
  | some e => if reached s.clock.micros e.due then s.resolveLost u e else s

/-- An entry is resolved ANSWERED with its round-trip time (R58, R65); the order of notices and burst answer is log entry 39. -/
def State.resolveAnswered (s : State) (u : Uplink) (e : Outstanding) : State :=
  let rtt := (s.clock.micros - e.sentAt).toNat
  let p := (s.prober u).remove e.sequence
  let p1 := { p with counters := p.counters.countAnswered }
  ((s.setProber u (p1.tally e.marked (fun b => b.tallyAnswered rtt))).takeOutcome u .answered rtt).checkBurst u

/-- An echo is matched against its uplink's outstanding list (R58). -/
def State.matchEcho (s : State) (u : Uplink) (sequence nonce : BitVec 16) : State :=
  let p := s.prober u
  match p.entry sequence with
  | none => s.setProber u { p with counters := p.counters.countLate }
  | some e =>
    if e.nonce = nonce then s.resolveAnswered u e
    else s.setProber u { p with counters := p.counters.countDiscarded }

/-! ## Sending (R56) -/

/-- The outstanding list holds at most 8 entries (R51). -/
def outstandingLimit : Nat := 8

/-- The oldest entry of a full list is resolved LOST before anything else is done for the new probe (R56 step 1). -/
def State.retireOldest (s : State) (u : Uplink) : State :=
  match (s.prober u).outstanding with
  | [] => s
  | e :: rest => if outstandingLimit ≤ rest.length + 1 then s.resolveLost u e else s

/-- The nonce counter: the low 16 bits of the microsecond count (R51). -/
def State.nonce (s : State) : BitVec 16 := s.clock.micros.setWidth 16

/-- One probe is sent (R56). -/
def State.sendProbe (s : State) (u : Uplink) (marked : Bool) : State :=
  let s1 := s.retireOldest u
  let p := s1.prober u
  let e : Outstanding :=
    ⟨p.sequence, s1.nonce, s1.clock.micros, s1.clock.micros + BitVec.ofNat 32 ((s1.cfg.probes.get u).timeout * 1000), marked⟩
  (s1.setProber u
    { p with sequence := p.sequence + 1, outstanding := p.outstanding ++ [e], counters := p.counters.countSent }).sendProbeDatagram
      u e.sequence e.nonce

/-- A run-out of the probe timer: a probe when the uplink is eligible, and a re-arm in both cases (R53, R54). The re-arm reads the radio's
state before the deliveries that an oldest entry resolved LOST causes are taken (log entry 45). -/
def State.probeRunout (s : State) (u : Uplink) : State :=
  let s1 := if s.eligible u then s.sendProbe u false else s
  s1.armProbe u (s1.after (s1.probeInterval u))

/-! ## Burst sends (R64) -/

/-- The time between two burst probes, in ms (R64). -/
def burstSpacing : Nat := 100

/-- A burst send falls due: a marked probe when eligible, else the rest is given up; then the end test. -/
def State.burstSend (s : State) (u : Uplink) : State :=
  if s.eligible u then
    let s1 := s.sendProbe u true
    match (s1.prober u).burst with
    | none => s1
    | some b =>
      let sent := b.sent + 1
      (s1.setProber u { s1.prober u with
        burst := some { b with sent := sent, nextDue := if b.count ≤ sent then none else some (s1.after burstSpacing) } }).checkBurst u
  else
    (s.setProber u { s.prober u with burst := (s.prober u).burst.map (fun b => { b with nextDue := none }) }).checkBurst u

/-! ## Emptying (R61, R66) -/

/-- The outstanding list is emptied without outcomes, and a running burst ends at once with what was resolved. -/
def State.emptyOutstanding (s : State) (u : Uplink) : State :=
  let s1 := s.setProber u { s.prober u with outstanding := [] }
  match (s1.prober u).burst with
  | none => s1
  | some b => s1.finishBurst u b (doneOrClamped b.clamped)

/-- The entries of a cancelled burst stay as ordinary probes (R67). -/
def Prober.unmarked (p : Prober) : Prober :=
  { p with outstanding := p.outstanding.map (fun e => { e with marked := false }) }

/-- A running burst is cancelled (R67). -/
def State.cancelBurst (s : State) (u : Uplink) (b : Burst) : State :=
  (s.setProber u (s.prober u).unmarked).finishBurst u b .cancelled

end Sys2Proof.Machine
end

