-- ==== Sys2Proof/Machine/Radios.lean ====
section
/-! DEFINITION. The Radio Sequencer (chapter 3): warming, readiness, draining, OFF, the power tier. -/

namespace Sys2Proof.Machine

/-! ## RADIO_STATE (R48) -/

/-- The causes of a RADIO_STATE notice (R48). -/
inductive RadioCause where
  | hostWarm | autoWarm | policyWarm | ready | readyLost | attachFailed | carrierOrFlows | coolHold | hostOff | tierDrain
  | drainDone | cancel | drainCleared
deriving DecidableEq, Repr

def radioCauseCode : RadioCause → Nat
  | .hostWarm => 0
  | .autoWarm => 1
  | .policyWarm => 2
  | .ready => 3
  | .readyLost => 4
  | .attachFailed => 5
  | .carrierOrFlows => 6
  | .coolHold => 7
  | .hostOff => 8
  | .tierDrain => 9
  | .drainDone => 10
  | .cancel => 11
  | .drainCleared => 12

/-- A RADIO_STATE notice after a change: `old` is the state before it (R48). -/
def State.raiseRadioState (s : State) (r : Radio) (old : RadioState) (cause : RadioCause) : State :=
  s.raise ⟨.radioState, radioCode r, radioStateCode old, radioStateCode (s.radio r).state, boolCode (s.radio r).draining,
    radioCauseCode cause, s.radioCount r, 0⟩

/-! ## Tests -/

/-- The OFF condition (R34): assigned count 0 and not the carrier. -/
def State.canOff (s : State) (r : Radio) : Bool := decide (s.radioCount r = 0) && !s.isCarrier r.uplink

/-- The ready state that the test of R33 gives. -/
def State.readyState (s : State) (r : Radio) : RadioState :=
  if s.isCarrier r.uplink || decide (0 < s.radioCount r) then .carrying else .standby

/-- The RESERVE limit holds the radio back: the other radio is out of OFF and not draining (R37). -/
def State.limitRefuses (s : State) (r : Radio) : Bool :=
  s.conditions.powerTier == .reserve && (s.radio r.other).state != .off && !(s.radio r.other).draining

/-- A radio's bias (section 5.1). -/
def State.bias (s : State) (r : Radio) : Nat := (s.cfg.judges.get r.uplink).bias

/-- The radio of higher bias, or RADIO_A when the biases are equal (R37). -/
def State.preferred (s : State) : Radio := if s.bias .a < s.bias .b then .b else .a

/-- The largest span an answer or a notice carries (R42, R49). -/
def spanLimit : Nat := 2 ^ 31 - 1

/-- The milliseconds since a radio's power-on time, stopping at 2^31−1 instead of wrapping (R42, R49). -/
def State.poweredFor (s : State) (r : Radio) : Nat :=
  let u := s.radio r
  match u.poweredAt with
  | none => 0
  | some t => min spanLimit ((s.clock.wraps * 2 ^ 32 + s.now.toNat) - (u.poweredWraps * 2 ^ 32 + t.toNat))

/-- The due time of a timer of so many seconds that starts now. -/
def State.seconds (s : State) (n : Nat) : Word := s.after (n * 1000)

/-- cool_hold on entering a ready state: it runs in STANDBY under COLD policy, and nowhere else (R33). -/
def State.coolHoldIn (s : State) (r : Radio) (st : RadioState) : Option Word :=
  if st = .standby && (s.cfg.timers.get r).policy = .cold then some (s.seconds (s.cfg.timers.get r).coolHold) else none

/-! ## Answers of RADIO_POWER (section 3.4, R185) -/

/-- The answer words of RADIO_POWER: radio, state, draining, failure flag; the warm-up time. -/
def State.radioWords (s : State) (r : Radio) (failed : Bool) (ms : Nat) : List Word :=
  [bytesWord (radioCode r) (radioStateCode (s.radio r).state) (boolCode (s.radio r).draining) (boolCode failed), word ms]

/-- The pending host WARM of a radio, if any, is answered at the end of its warm-up (R42). -/
def State.endWarm (s : State) (r : Radio) (o : RequestOutcome) (failed : Bool) : State :=
  s.endTimed (.warm r) o (s.radioWords r failed (s.poweredFor r))

/-! ## Entering OFF (R34) -/

/-- A radio enters OFF: output off, draining cleared, its timers but retry_wait stopped, notice, judgement reset (R80), and the
outstanding list of a radio that was ready emptied (R61). -/
def State.enterOff (s : State) (r : Radio) (cause : RadioCause) : State :=
  let u := s.radio r
  let s1 := s.setRadio r
    { u with state := .off, draining := false, warmMin := none, attachLimit := none, coolHold := none }
  let s2 := (s1.raiseRadioState r u.state cause).resetJudgement r .radioOff
  let s3 := if u.state.ready then s2.emptyOutstanding r.uplink else s2
  s3.emit .evaluate

/-- The draining flag is set: a notice, a walk trigger, and the usable decision anew (R43, R44). A flag already set stays set
and raises nothing. -/
def State.setDraining (s : State) (r : Radio) (cause : RadioCause) : State :=
  let u := s.radio r
  if u.draining then s
  else
    (((((s.setRadio r { u with draining := true }).raiseRadioState r u.state cause).walkTrigger .drainingSet).refreshUsable
      r.uplink).emit .evaluate)

/-- A radio is taken away: OFF at once when it can be, else draining (R43, R45, R47). -/
def State.letGo (s : State) (r : Radio) (cause : RadioCause) : State :=
  if s.canOff r then s.enterOff r cause else s.setDraining r cause

/-! ## Warming (R36, R37) -/

/-- A warm is taken on an OFF radio. -/
def State.startWarm (s : State) (r : Radio) (cause : RadioCause) : State :=
  let p := s.cfg.timers.get r
  let s1 := s.setRadio r
    { s.radio r with
      state := .warming
      draining := false
      poweredAt := some s.now
      poweredWraps := s.clock.wraps
      warmMin := some (s.seconds p.warmMin)
      attachLimit := some (s.seconds p.attachLimit)
      retryWait := none }
  ((s1.raiseRadioState r .off cause).refreshUsable r.uplink).emit .evaluate

/-- An auto-warm or a policy warm: taken on an OFF radio whose retry_wait is idle and which the limit allows, else nothing. -/
def State.askWarm (s : State) (r : Radio) (cause : RadioCause) : State :=
  if (s.radio r).state = .off && (s.radio r).retryWait.isNone && !s.limitRefuses r then s.startWarm r cause else s

/-- The radio is OFF and its policy is WARM (R41). -/
def State.wantsPolicyWarm (s : State) (r : Radio) : Bool :=
  (s.radio r).state == .off && (s.cfg.timers.get r).policy == .warm

/-- The Sequencer makes a policy warm of a radio when it is then OFF and in WARM policy (R41). -/
def State.policyWarm (s : State) (r : Radio) : State :=
  if s.wantsPolicyWarm r then s.askWarm r .policyWarm else s

/-- The policy warms of both radios at one moment (R37, R47, R50): in RESERVE, with warms to make for both, the preferred alone.
Elsewhere RADIO_A is warmed before RADIO_B, an order R41 leaves open (log entry 39). -/
def State.policyWarms (s : State) : State :=
  if s.conditions.powerTier = .reserve && s.wantsPolicyWarm .a && s.wantsPolicyWarm .b then s.policyWarm s.preferred
  else (s.policyWarm .a).policyWarm .b

/-! ## Readiness (R33, R38, R40) -/

/-- A WARMING radio becomes ready (R38). -/
def State.becomeReady (s : State) (r : Radio) : State :=
  let st := s.readyState r
  let s1 := s.setRadio r
    { s.radio r with state := st, warmMin := none, attachLimit := none, coolHold := s.coolHoldIn r st }
  let s2 := (s1.raiseRadioState r .warming .ready).resetJudgement r .radioReady
  let s3 := s2.armProbe r.uplink s2.now
  (s3.endWarm r .done false).emit .evaluate

/-- warm_min runs out: it is met from now on, and the present READY level decides (R38). -/
def State.warmMinOut (s : State) (r : Radio) (ready : Bool) : State :=
  let s1 := s.setRadio r { s.radio r with warmMin := none }
  if (s.radio r).state = .warming && ready then s1.becomeReady r else s1

/-- READY asserted (R38): it counts on a WARMING radio whose warm_min is met. -/
def State.readyAsserted (s : State) (r : Radio) : State :=
  if (s.radio r).state = .warming && (s.radio r).warmMin.isNone then s.becomeReady r else s

/-- READY lost (R40): a ready radio returns to WARMING with its power kept. -/
def State.readyLost (s : State) (r : Radio) : State :=
  let u := s.radio r
  if u.state.ready then
    let s1 := s.setRadio r
      { u with state := .warming, attachLimit := some (s.seconds (s.cfg.timers.get r).attachLimit), coolHold := none }
    let s2 := (s1.raiseRadioState r u.state .readyLost).failUplink r.uplink .readyLost
    (s2.emptyOutstanding r.uplink).emit .evaluate
  else s

/-- A ready radio changes to the other ready state (R33). -/
def State.changeReady (s : State) (r : Radio) (st : RadioState) : State :=
  let u := s.radio r
  ((s.setRadio r { u with state := st, coolHold := s.coolHoldIn r st }).raiseRadioState r u.state .carrierOrFlows).emit .evaluate

/-- A carrier change or a crossing of the count at the Sequencer: the draining test (R44), then the ready test (R33). -/
def State.retest (s : State) (r : Radio) : State :=
  let u := s.radio r
  if u.state != .off && u.draining && s.canOff r then s.enterOff r .drainDone
  else if u.state.ready && s.readyState r != u.state then s.changeReady r (s.readyState r)
  else s

/-! ## Timer run-outs (R39, R41) -/

/-- A host WARM is pending and its answer reaches the slot: what detail 4 of WARM_FAILED says (R49). -/
def State.warmAnswerable (s : State) (r : Radio) : Bool :=
  match s.inFlightOf (.warm r) with
  | none => false
  | some f => f.tied && s.running && decide (s.token f.slot = tokenTaken)

/-- A WARM_FAILED notice (R49). -/
def State.raiseWarmFailed (s : State) (r : Radio) (kept : Bool) (ms due : Nat) (answered : Bool) : State :=
  s.raise ⟨.warmFailed, radioCode r, radioStateCode .warming, radioStateCode (if kept then .warming else .off), boolCode kept, ms,
    due, boolCode answered⟩

/-- attach_limit runs out on a WARMING radio (R39). The pending WARM is answered between RADIO_STATE and WARM_FAILED (log entry 39). -/
def State.attachFailed (s : State) (r : Radio) : State :=
  let p := s.cfg.timers.get r
  let ms := s.poweredFor r
  if s.canOff r then
    let due := s.seconds p.retryWait
    let s1 := (s.setRadio r { s.radio r with retryWait := some due }).enterOff r .attachFailed
    (s1.endWarm r .done true).raiseWarmFailed r false ms due.toNat (s1.warmAnswerable r)
  else
    let s1 := s.setRadio r { s.radio r with attachLimit := some (s.seconds p.attachLimit) }
    (s1.endWarm r .done true).raiseWarmFailed r true ms 0 (s1.warmAnswerable r)

/-- retry_wait runs out: the timer stops, and a policy warm is made (R35, R41). -/
def State.retryWaitOut (s : State) (r : Radio) : State :=
  (s.setRadio r { s.radio r with retryWait := none }).policyWarm r

/-- cool_hold runs out in STANDBY: the radio goes OFF, the condition of R34 tested at that moment (R41). -/
def State.coolHoldOut (s : State) (r : Radio) : State :=
  let s1 := s.setRadio r { s.radio r with coolHold := none }
  if (s.radio r).state = .standby && s.canOff r then s1.enterOff r .coolHold else s1

/-! ## Power tier changes (R47) -/

/-- A radio that could be kept: out of OFF and not draining. -/
def State.candidate (s : State) (r : Radio) : Bool := (s.radio r).state != .off && !(s.radio r).draining

/-- Of two candidates the one to keep (R47): the carrier, the greater count, the higher bias, RADIO_A. -/
def State.kept (s : State) : Radio :=
  if s.isCarrier .radioA then .a
  else if s.isCarrier .radioB then .b
  else if s.radioCount .b < s.radioCount .a then .a
  else if s.radioCount .a < s.radioCount .b then .b
  else s.preferred

/-- A radio is drained by the tier, and its pending WARM answered TIER_LIMIT (R47). -/
def State.tierDrain (s : State) (r : Radio) : State := (s.letGo r .tierDrain).endWarm r .tierLimit false

/-- A power tier change at the Sequencer: on entry into RESERVE one radio is kept; then the policy warms (R47). -/
def State.tierChanged (s : State) (entered : PowerTier) : State :=
  (if entered = .reserve && s.candidate .a && s.candidate .b then s.tierDrain s.kept.other else s).policyWarms

/-! ## Host requests (R42, R43, R45) -/

/-- The draining flag is cleared by a host WARM (R42). -/
def State.clearDraining (s : State) (r : Radio) : State :=
  let u := s.radio r
  (((s.setRadio r { u with draining := false }).raiseRadioState r u.state .drainCleared).refreshUsable r.uplink).emit .evaluate

/-- No uplink but this radio's is usable (R43). -/
def State.noOtherUsable (s : State) (r : Radio) : Bool := !s.usable .fibre && !s.usable r.other.uplink

/-- A cancel of a pending WARM whose warm-up is in progress: the warm-up is withdrawn and the WARM answered CANCELLED (R45). -/
def State.cancelWarm (s : State) (r : Radio) : State := (s.letGo r .cancel).endWarm r .cancelled false

end Sys2Proof.Machine
end

