-- ==== Sys2Proof/Machine/Selector.lean ====
section
/-! DEFINITION. The Carrier Selector (chapter 6): evaluations, the carrier change, stranding, auto-warms, HOLD. -/

namespace Sys2Proof.Machine

/-! ## Reading the uplinks -/

/-- A radio's effective merit (R76); an absent merit counts 0, and a usable radio always has one (R95). -/
def State.effectiveMerit (s : State) (r : Radio) : Nat := ((s.judge r.uplink).merit.getD 0) + s.bias r

/-- No uplink is usable (R98). -/
def State.noneUsable (s : State) : Bool := !s.usable .fibre && !s.usable .radioA && !s.usable .radioB

/-- Of two usable radios, the one of higher effective merit, then of higher bias, then RADIO_A (R95). -/
def State.betterRadio (s : State) : Radio :=
  if s.effectiveMerit .a < s.effectiveMerit .b then .b
  else if s.effectiveMerit .b < s.effectiveMerit .a then .a
  else s.preferred

/-- The usable radio that a lost fibre gives the carrier to, if there is one (R95). -/
def State.pickRadio (s : State) : Option Radio :=
  match s.usable .radioA, s.usable .radioB with
  | true, true => some s.betterRadio
  | true, false => some .a
  | false, true => some .b
  | false, false => none

/-! ## The stranded flag (R98, R108) -/

/-- The stranded flag takes a new value: stored, the state word rewritten (R163), STRANDED raised (R108); the order of the two accesses is
log entry 39. -/
def State.setStranded (s : State) (b : Bool) : State :=
  let s1 := (s.setSelector { s.selector with stranded := b }).writeStateWord
  s1.raise ⟨.stranded, uplinkCode s.selector.carrier, boolCode (!b), boolCode b, modeCode s.selector.mode,
    verdictCode (s.judge .fibre).verdict, radioStateCode (s.radio .a).state, radioStateCode (s.radio .b).state⟩

/-- The stranded test of an evaluation. -/
def State.testStranded (s : State) : State :=
  if s.noneUsable = s.selector.stranded then s else s.setStranded s.noneUsable

/-! ## The carrier change (R99, R100) -/

/-- The reasons of a CARRIER notice. -/
inductive CarrierReason where
  | fibreLost | fibreBack | radioBetter | radioLost | setCarrier
deriving DecidableEq, Repr

def carrierReasonCode : CarrierReason → Nat
  | .fibreLost => 0
  | .fibreBack => 1
  | .radioBetter => 2
  | .radioLost => 3
  | .setCarrier => 4

/-- The usable decisions as bits by uplink code (R184). -/
def State.usableBits (s : State) : Nat :=
  boolCode (s.usable .fibre) + 2 * boolCode (s.usable .radioA) + 4 * boolCode (s.usable .radioB)

/-- Detail 4 of CARRIER: the effective merit of a radio, 0 for FIBRE (R100). An absent one has no stated value (log entry 35). -/
def State.carrierMerit (s : State) (u : Uplink) : Nat :=
  match u.radio? with
  | none => 0
  | some r => if (s.judge u).merit.isNone then Config.absentMerit.toNat else s.effectiveMerit r

/-- The carrier changes (R99): stored, notified, sustain cleared, stranded cleared, and delivered to the Sequencer and the Walker. The
state word is rewritten before the notice (log entry 39). -/
def State.changeCarrier (s : State) (u : Uplink) (reason : CarrierReason) : State :=
  let old := s.selector.carrier
  let s1 := (s.setSelector { s.selector with carrier := u, sustain := 0 }).writeStateWord
  let s2 := s1.raise ⟨.carrier, uplinkCode u, uplinkCode old, uplinkCode u, carrierReasonCode reason, modeCode s.selector.mode,
    s.usableBits, s.carrierMerit u⟩
  let s3 := if s.selector.stranded then s2.setStranded false else s2
  (s3.emit .carrierMoved).walkTrigger .carrierChange

/-! ## The procedure in STEERING (R95 to R97) -/

def State.setSustain (s : State) (n : Nat) : State := s.setSelector { s.selector with sustain := n }

/-- The condition of the switch test (R97). -/
def State.switchHolds (s : State) (x : Radio) : Bool :=
  s.usable x.other.uplink && decide (s.effectiveMerit x + s.cfg.selector.switchMargin ≤ s.effectiveMerit x.other)

/-- The switch test with radio x as carrier and usable (R97). -/
def State.switchTest (s : State) (x : Radio) (timer : Bool) : State :=
  if s.switchHolds x then
    (if timer then
      (if s.cfg.selector.switchSustain ≤ s.selector.sustain + 1 then s.changeCarrier x.other.uplink .radioBetter
       else s.setSustain (s.selector.sustain + 1))
     else s)
  else s.setSustain 0

/-- Fibre has been usable for return_hold (R96). -/
def State.returnHoldMet (s : State) : Bool :=
  match s.selector.fibreSince with
  | none => false
  | some t => decide (s.cfg.selector.returnHold * 1000 ≤ s.since t)

/-- The procedure with the carrier FIBRE (R95). -/
def State.fromFibre (s : State) : State :=
  if s.usable .fibre then s
  else match s.pickRadio with
    | some r => s.changeCarrier r.uplink .fibreLost
    | none => s

/-- The procedure with a radio as carrier (R96). -/
def State.fromRadio (s : State) (x : Radio) (timer : Bool) : State :=
  if s.usable .fibre && (s.judge .fibre).verdict = .good && s.returnHoldMet then s.changeCarrier .fibre .fibreBack
  else if s.usable x.uplink then s.switchTest x timer
  else if s.usable .fibre then s.changeCarrier .fibre .radioLost
  else if s.usable x.other.uplink then s.changeCarrier x.other.uplink .radioLost
  else s

/-- The carrier procedure of the present mode (R93, R102). -/
def State.carrierProcedure (s : State) (timer : Bool) : State :=
  match s.selector.mode with
  | .hold => s
  | .steering =>
    match s.selector.carrier.radio? with
    | none => s.fromFibre
    | some x => s.fromRadio x timer

/-! ## Auto-warms (R101) -/

/-- The carrier is in trouble: the two conditions of R101. -/
def State.asksWarms (s : State) : Bool :=
  match s.selector.carrier.radio? with
  | none => !s.usable .fibre
  | some x => !s.usable x.uplink && (s.radio x.other).state == .off

/-- A radio that could be asked for: OFF with retry_wait not running. -/
def State.warmable (s : State) (r : Radio) : Bool := (s.radio r).state == .off && (s.radio r).retryWait.isNone

/-- In RESERVE, of the radios that could be asked for, the one of higher bias. -/
def State.reserveChoice (s : State) : Option Radio :=
  match s.warmable .a, s.warmable .b with
  | true, true => some s.preferred
  | true, false => some .a
  | false, true => some .b
  | false, false => none

/-- The radios an evaluation asks for; where it asks for both, RADIO_A before RADIO_B, an order R101 leaves open (log entry 39). -/
def State.askedFor (s : State) : List Radio :=
  if s.asksWarms then
    (if s.conditions.powerTier = .reserve then
      (match s.reserveChoice with
       | none => []
       | some r => if (s.radio r.other).state = .off || (s.radio r.other).draining then [r] else [])
     else [Radio.a, Radio.b].filter s.warmable)
  else []

/-- The auto-warm requests are handed to the Radio Sequencer. -/
def State.askAutoWarms (s : State) : State := s.askedFor.foldl (fun t r => t.emit (.autoWarm r)) s

/-! ## Evaluations (R93) -/

/-- An evaluation: the carrier procedure, the stranded test, the auto-warms. -/
def State.evaluate (s : State) (timer : Bool) : State := ((s.carrierProcedure timer).testStranded).askAutoWarms

/-- The largest return_hold in ms, at which fibre_usable_since is kept from wrapping (R94). -/
def sinceLimit : Nat := 3600000

/-- fibre_usable_since after a timer evaluation's keeping (R94). -/
def State.keptSince (s : State) : Option Word :=
  match s.selector.fibreSince with
  | none => none
  | some t => if sinceLimit < s.since t then some (s.now - BitVec.ofNat 32 sinceLimit) else some t

/-- A run-out of the evaluation timer (R93, R94). -/
def State.timerEvaluation (s : State) : State :=
  (s.setSelector { s.selector with evaluation := some (s.after 1000), fibreSince := s.keptSince }).evaluate true

/-- A usability delivery: fibre_usable_since is maintained, and an event evaluation is made (R93, R94). -/
def State.usabilityAtSelector (s : State) (u : Uplink) (b : Bool) : State :=
  match u with
  | .fibre => (s.setSelector { s.selector with fibreSince := if b then some s.now else none }).evaluate false
  | .radioA => s.evaluate false
  | .radioB => s.evaluate false

/-! ## HOLD (R92, R103, R104) -/

/-- The hold remaining in ms (R92, R185). -/
def State.holdRemaining (s : State) : Nat :=
  match s.selector.mode, s.selector.holdTimer with
  | .steering, _ => 0
  | .hold, none => 0xFFFFFFFF
  | .hold, some due => if reached s.now due then 0 else (due - s.now).toNat

/-- The largest hold limit in s. -/
def holdLimitMax : Nat := 86400

/-- HOLD is entered or restarted with a limit already in range (R103). -/
def State.beginHold (s : State) (limit : Nat) : State :=
  let s1 := s.setSelector
    { s.selector with
      mode := .hold
      sustain := 0
      holdLimit := limit
      holdTimer := if limit = 0 then none else some (s.seconds limit) }
  if s.selector.mode = .hold then s1 else s1.writeStateWord

/-- The mode becomes STEERING and the hold limit timer stops (R104). -/
def State.endHold (s : State) : State :=
  (s.setSelector { s.selector with mode := .steering, holdTimer := none }).writeStateWord

/-- The hold limit runs out (R104, R108). -/
def State.holdExpired (s : State) : State :=
  let s1 := s.endHold
  (s1.raise ⟨.holdExpired, uplinkCode s.selector.carrier, modeCode .hold, modeCode .steering, s.selector.holdLimit, 0, 0, 0⟩).evaluate
    false

end Sys2Proof.Machine
end

