-- ==== Sys2Proof/Machine/Deliver.lean ====
section
/-! DEFINITION. Taking the deliveries that a step makes, first in, first out, until none is left (log entry 3), and the shape that
every command's meaning has. -/

namespace Sys2Proof.Machine

/-- One delivery at the block it reaches. A carrier change has RADIO_A tested before RADIO_B, an order that R33 and R44 leave open (log
entry 39). -/
def State.deliver (s : State) : Delivery → State
  | .evaluate => s.evaluate false
  | .usability u b => s.usabilityAtSelector u b
  | .carrierMoved => (s.retest .a).retest .b
  | .countCrossed r => s.retest r
  | .autoWarm r => s.askWarm r .autoWarm

/-- The deliveries are taken until none is left. The bound is far above what any step makes. -/
def State.settle : Nat → State → State
  | 0, s => s
  | n + 1, s =>
    match s.deliveries with
    | [] => s
    | d :: rest => State.settle n (({ s with deliveries := rest }).deliver d)

/-- The bound on the deliveries of one step. -/
def deliveryBound : Nat := 256

/-- A command's effect `f` at its moment, with its deliveries taken. -/
def State.take (s : State) (m : Moment) (f : State → State) : State := State.settle deliveryBound (f (s.begin m))

/-- What every meaning answers: no command stops the part. -/
def State.go (s : State) (m : Moment) (f : State → State) : Host.Outcome State Fault Refusal := .next (s.take m f)

/-- An effect that only a steering part has (R18, R179). -/
def whenSteering (f : State → State) (s : State) : State := if s.steering then f s else s

/-- An effect that only a steering part with a running exchange has (R166, R174). -/
def whenRunning (f : State → State) (s : State) : State := if s.steering && s.running then f s else s

/-- A timer's run-out: it is taken when the timer runs and its due time is reached; the timer a state holds is `due` (log entry 5). -/
def atRunout (due : State → Option Word) (f : State → State) (s : State) : State :=
  if s.steering && timerDue s.now (due s) then f s else s

end Sys2Proof.Machine
end

