-- ==== Sys2Proof/Machine/Conditions.lean ====
section
/-! DEFINITION. The Condition Monitor (chapter 2): filters, filtered changes, the watch, the power tier. -/

namespace Sys2Proof.Machine

def State.setConditions (s : State) (c : Conditions) : State := { s with conditions := c }

/-! ## The power tier (R29, R30) -/

/-- The tier the filtered levels give (R29). -/
def tierOfLevels (levels : PerInput Bool) : PowerTier :=
  if levels.mainsPresent then .mains else if levels.batteryLow then .reserve else .battery

/-- The tier is derived again; a change is stored, the state word rewritten (R163), and POWER_TIER raised (R30), in that order of accesses,
which no rule gives (log entry 39). -/
def State.derivePowerTier (s : State) (i : Input) : State :=
  let old := s.conditions.powerTier
  let tier := tierOfLevels s.conditions.filtered
  if tier = old then s
  else
    ((s.setConditions { s.conditions with powerTier := tier }).writeStateWord).raise
      ⟨.powerTier, inputCode i, powerTierCode old, powerTierCode tier, (inputBits s.conditions.filtered).toNat, 0, 0, 0⟩

/-- A tier change is delivered to the Sequencer and to the Walker (R30). -/
def State.deliverTier (s : State) (old : PowerTier) : State :=
  if s.conditions.powerTier = old then s else (s.tierChanged s.conditions.powerTier).walkTrigger .powerTier

/-! ## The watch (R24, R26, R27) -/

/-- The masked inputs whose filtered level differs from the pattern. -/
def brokenInputs (mask pattern levels : Byte) : Byte := (levels ^^^ pattern) &&& mask

/-- The watch conforms (R24). -/
def conforms (w : WatchSettings) (levels : PerInput Bool) : Bool := brokenInputs w.mask w.pattern (inputBits levels) = 0

/-- Conformity is recomputed; a departure raises one WATCH_ALERT (R26, R27). `old` is the levels before the event. -/
def State.recheckWatch (s : State) (subject : Nat) (old : Byte) : State :=
  let w := s.cfg.watch
  let levels := inputBits s.conditions.filtered
  let now := conforms w s.conditions.filtered
  let s1 := s.setConditions { s.conditions with conforming := now }
  if s.conditions.conforming && !now then
    s1.raise ⟨.watchAlert, subject, old.toNat, levels.toNat, w.mask.toNat, w.pattern.toNat,
      (brokenInputs w.mask w.pattern levels).toNat, 0⟩
  else s1

/-! ## Filtered changes (R22, R23) -/

/-- The radio behind a READY input. -/
def readyRadio : Input → Option Radio
  | .radioAReady => some .a
  | .radioBReady => some .b
  | .mainsPresent | .batteryLow | .opticalLoss | .lineBusy1 | .lineBusy2 | .aux => none

/-- The READY input of a radio. -/
def readyInput : Radio → Input
  | .a => .radioAReady
  | .b => .radioBReady

/-- The filtered RADIO_x_READY level of a radio (R38). -/
def State.readyLevel (s : State) (r : Radio) : Bool := s.level (readyInput r)

/-- A line is busy (R130). -/
def State.lineBusy (s : State) : Bool := s.level .lineBusy1 || s.level .lineBusy2

/-- A filtered change at the block that acts on it (R22, R23). -/
def State.deliverLevel (s : State) (i : Input) (level : Bool) : State :=
  match i with
  | .opticalLoss => s.fibreEvent level .opticalLoss
  | .radioAReady => if level then s.readyAsserted .a else s.readyLost .a
  | .radioBReady => if level then s.readyAsserted .b else s.readyLost .b
  | .lineBusy1 => if !level && !s.lineBusy then s.walkTrigger .lineIdle else s
  | .lineBusy2 => if !level && !s.lineBusy then s.walkTrigger .lineIdle else s
  | .mainsPresent | .batteryLow | .aux => s

/-- The inputs the power tier is derived from (R29). -/
def feedsTier : Input → Bool
  | .mainsPresent => true
  | .batteryLow => true
  | .opticalLoss | .radioAReady | .radioBReady | .lineBusy1 | .lineBusy2 | .aux => false

/-- A filtered level takes a new value: the tier, the watch, then the deliveries to other blocks. -/
def State.filteredChange (s : State) (i : Input) (level : Bool) : State :=
  let old := s.conditions.powerTier
  let before := inputBits s.conditions.filtered
  let s1 := s.setConditions
    { s.conditions with filtered := s.conditions.filtered.set i level, changes := s.conditions.changes.set i none }
  let s2 := if feedsTier i then s1.derivePowerTier i else s1
  let s3 := s2.recheckWatch (inputCode i) before
  (s3.deliverTier old).deliverLevel i level

/-! ## Raw changes and pending changes (R20, R21) -/

/-- The raw level is stored, whatever the phase: it is the level at the pin. -/
def State.setRaw (s : State) (i : Input) (level : Bool) : State :=
  s.setConditions { s.conditions with raw := s.conditions.raw.set i level }

/-- The effect of a raw change on a steering part (R20). -/
def State.filterRaw (s : State) (i : Input) (level : Bool) : State :=
  match s.conditions.changes.get i with
  | some _ =>
    if level = s.level i then s.setConditions { s.conditions with changes := s.conditions.changes.set i none } else s
  | none =>
    if level = s.level i then s
    else if s.cfg.watch.filters.get i = 0 then s.filteredChange i level
    else s.setConditions
      { s.conditions with changes := s.conditions.changes.set i (some (s.after (s.cfg.watch.filters.get i))) }

/-- A raw level change is an event when the level is another (R20); outside steering only the level is new (R31). -/
def State.rawChange (s : State) (i : Input) (level : Bool) : State :=
  if s.conditions.raw.get i = level then s
  else whenSteering (fun t => t.filterRaw i level) (s.setRaw i level)

/-- A pending change falls due: the filtered level takes the new value (R20). -/
def State.changeDue (s : State) (i : Input) : State := s.filteredChange i (!s.level i)

/-! ## The start (R25, R31) -/

/-- The Condition Monitor starts: levels sampled, conformity and tier set, nothing raised. -/
def Conditions.start (c : Conditions) (w : WatchSettings) : Conditions where
  raw := c.raw
  filtered := c.raw
  changes := .all none
  conforming := conforms w c.raw
  powerTier := tierOfLevels c.raw

end Sys2Proof.Machine
end

