-- ==== Sys2Proof/Machine/Flows.lean ====
section
/-! DEFINITION. The Flow Table and placement (chapters 7 and 8.1, 8.2): entries by index, counts, classification, placement,
creation, eviction, refusal, ageing, the downstream lookup, PIN. -/

namespace Sys2Proof.Machine

def State.setFlows (s : State) (x : FlowTable) : State := { s with flows := x }

/-! ## Entries by index (R109) -/

/-- The table holds at most 1024 entries. -/
def tableSize : Nat := 1024

/-- The live entry at an index. -/
def entryAt (es : List (Nat × FlowEntry)) (i : Nat) : Option FlowEntry := (es.find? (fun p => p.1 == i)).map (·.2)

/-- The one entry with a key, with its index. -/
def entryOfKey (es : List (Nat × FlowEntry)) (k : FlowKey) : Option (Nat × FlowEntry) := es.find? (fun p => p.2.key == k)

/-- The entry at an index is replaced. -/
def replaceEntry (es : List (Nat × FlowEntry)) (i : Nat) (e : FlowEntry) : List (Nat × FlowEntry) :=
  es.map (fun p => if p.1 = i then (i, e) else p)

/-- A new entry at a free index, indices kept rising. -/
def insertEntry (es : List (Nat × FlowEntry)) (i : Nat) (e : FlowEntry) : List (Nat × FlowEntry) :=
  match es with
  | [] => [(i, e)]
  | p :: t => if i < p.1 then (i, e) :: p :: t else p :: insertEntry t i e

/-- The entry at an index is removed. -/
def removeEntry (es : List (Nat × FlowEntry)) (i : Nat) : List (Nat × FlowEntry) := es.filter (fun p => p.1 != i)

/-- The lowest free index from `n` up, of entries whose indices rise. -/
def lowestFree : Nat → List (Nat × FlowEntry) → Nat
  | n, [] => n
  | n, p :: t => if p.1 = n then lowestFree (n + 1) t else n

/-! ## Assigned counts (R122) -/

def AssignedCounts.get (c : AssignedCounts) : Option Uplink → Nat
  | some .fibre => c.fibre
  | some .radioA => c.radioA
  | some .radioB => c.radioB
  | Option.none => c.none

def AssignedCounts.put (c : AssignedCounts) (a : Option Uplink) (n : Nat) : AssignedCounts :=
  match a with
  | some .fibre => { c with fibre := n }
  | some .radioA => { c with radioA := n }
  | some .radioB => { c with radioB := n }
  | Option.none => { c with none := n }

def AssignedCounts.inc (c : AssignedCounts) (a : Option Uplink) : AssignedCounts := c.put a (c.get a + 1)
def AssignedCounts.dec (c : AssignedCounts) (a : Option Uplink) : AssignedCounts := c.put a (c.get a - 1)

/-- A step that took a radio's count to 0 or from it is delivered to the Radio Sequencer (R122). `before` are the counts before. Where one
step takes both radios' counts across 0, R122 gives no order of the two: the model delivers RADIO_A's first (log entry 39). -/
def State.deliverCrossings (s : State) (before : AssignedCounts) : State :=
  let s1 := if decide (before.radioA = 0) = decide (s.flows.counts.radioA = 0) then s else s.emit (.countCrossed .a)
  if decide (before.radioB = 0) = decide (s.flows.counts.radioB = 0) then s1 else s1.emit (.countCrossed .b)

/-! ## Classification (R113) -/

/-- The first `length` bits of two address fields are equal. -/
def samePrefix (length : Nat) (a b : Address) : Bool := a.toNat / 2 ^ (128 - length) == b.toNat / 2 ^ (128 - length)

def protocolMatches (p : RuleProtocol) (k : FlowKey) : Bool :=
  match p with
  | .any => true
  | .tcp => k.protocol.toNat == protocolTcp
  | .udp => k.protocol.toNat == protocolUdp
  | .icmp =>
    match k.version with
    | .v4 => k.protocol.toNat == protocolIcmp
    | .v6 => k.protocol.toNat == protocolIcmpV6

def portsMatch (ports : Option (Nat × Nat)) (k : FlowKey) : Bool :=
  match ports with
  | none => true
  | some (lo, hi) =>
    (k.protocol.toNat == protocolTcp || k.protocol.toNat == protocolUdp) &&
      decide (lo ≤ k.dstPort.toNat) && decide (k.dstPort.toNat ≤ hi)

def dscpMatches (d : Option Nat) (dscp : Nat) : Bool :=
  match d with
  | none => true
  | some n => n == dscp

def destMatches (d : Option DestRange) (k : FlowKey) : Bool :=
  match d with
  | none => true
  | some p => p.version == k.version && samePrefix p.length p.address k.dest

/-- A valid rule matches a frame of this key and DSCP (R113). -/
def Rule.matches (r : Rule) (k : FlowKey) (dscp : Nat) : Bool :=
  protocolMatches r.protocol k && portsMatch r.ports k && dscpMatches r.dscp dscp && destMatches r.dest k

/-- The class and pin that the rules give (R113). -/
def classify (rules : List (Option Rule)) (k : FlowKey) (dscp : Nat) : TrafficClass × Option Uplink :=
  match rules with
  | [] => (.standard, none)
  | none :: t => classify t k dscp
  | some r :: t => if r.matches k dscp then (r.trafficClass, r.pin) else classify t k dscp

/-! ## Admission and placement (R130, R131) -/

/-- A class is admitted on a radio (R131). -/
def State.admits (s : State) (c : TrafficClass) (r : Radio) : Bool :=
  let p := s.cfg.classes.get c
  decide (allowanceTierCode (s.meter r).tier ≤ allowanceTierCode p.radioAdmission) &&
    decide (powerTierCode s.conditions.powerTier ≤ powerTierCode p.powerAdmission)

/-- What placement gives an entry: an assignment and a state. -/
structure Placement where
  assigned : Option Uplink
  state    : EntryState
deriving DecidableEq, Repr

/-- The pin or the carrier as a target: settled there, or shed where the class is not admitted. -/
def State.placeOn (s : State) (c : TrafficClass) (target : Uplink) : Placement :=
  match target.radio? with
  | none => ⟨some .fibre, .settled⟩
  | some r => if s.admits c r then ⟨some target, .settled⟩ else ⟨none, .shed⟩

/-- The uplink is a draining radio. -/
def State.drains (s : State) (u : Uplink) : Bool :=
  match u.radio? with
  | none => false
  | some r => (s.radio r).draining

/-- The voice hold applies to an entry of this class and present assignment (R130 step 2). -/
def State.voiceHolds (s : State) (c : TrafficClass) (held : Option Uplink) : Bool :=
  match held with
  | none => false
  | some u => c == .voice && !s.isCarrier u && s.usable u && !s.drains u && s.lineBusy

/-- The pin, when it names a usable uplink (R130 step 1). -/
def State.usablePin (s : State) (pin : Option Uplink) : Option Uplink := pin.filter s.usable

/-- Placement (R130). `held` is the present assignment: none at creation and for a SHED entry. -/
def State.place (s : State) (c : TrafficClass) (pin held : Option Uplink) : Placement :=
  match s.usablePin pin with
  | some u => s.placeOn c u
  | none => if s.voiceHolds c held then ⟨held, .held⟩ else s.placeOn c s.selector.carrier

/-- An entry after a placement (R134): the move count follows a change of assignment. -/
def FlowEntry.placed (e : FlowEntry) (p : Placement) : FlowEntry :=
  { e with
    assigned := p.assigned
    state := p.state
    moves := if p.assigned = e.assigned then e.moves else bump e.moves }

/-- The counts after a placement (R122, R134). -/
def AssignedCounts.moved (c : AssignedCounts) (old new : Option Uplink) : AssignedCounts :=
  if old = new then c else (c.dec old).inc new

/-- An entry is placed again and written back, its counts in the same step (R134). -/
def State.replaceAt (s : State) (i : Nat) (e : FlowEntry) : State :=
  let p := s.place e.trafficClass e.pin e.assigned
  let s1 := s.setFlows
    { s.flows with
      entries := replaceEntry s.flows.entries i (e.placed p)
      counts := s.flows.counts.moved e.assigned p.assigned }
  s1.deliverCrossings s.flows.counts

/-! ## The upstream stage (R115 to R118) -/

/-- What stage 1 of R6 hands on: the uplink, none for a frame to be dropped at stage 2, and the class. -/
structure Handed where
  assigned     : Option Uplink
  trafficClass : TrafficClass
deriving DecidableEq, Repr

/-- An unkeyed or refused frame: the carrier and STANDARD, dropped when a carrier radio does not admit STANDARD (R112, R131). -/
def State.followCarrier (s : State) : Handed := ⟨(s.placeOn .standard s.selector.carrier).assigned, .standard⟩

/-- An entry that a frame of it has touched (R115). -/
def FlowEntry.touchUp (e : FlowEntry) (now : Word) (length : Nat) : FlowEntry :=
  { e with lastSeen := now, upBytes := e.upBytes + BitVec.ofNat 64 length }

/-- The entry may be evicted (R117). -/
def FlowEntry.evictable (e : FlowEntry) : Bool := e.trafficClass != .voice && e.pin.isNone

/-- The victim: of the evictable entries the one seen least recently, the lowest index first (R117). -/
def victimOf (now : Word) : List (Nat × FlowEntry) → Option (Nat × FlowEntry)
  | [] => none
  | p :: t =>
    match victimOf now t with
    | none => if p.2.evictable then some p else none
    | some q => if p.2.evictable && decide ((now - q.2.lastSeen).toNat ≤ (now - p.2.lastSeen).toNat) then some p else some q

/-- A new entry of a frame (R116). -/
def State.newEntry (s : State) (k : FlowKey) (dscp length : Nat) : FlowEntry :=
  let cp := classify s.cfg.rules k dscp
  let p := s.place cp.1 cp.2 none
  ⟨k, cp.1, p.assigned, p.state, cp.2, s.now, s.now, BitVec.ofNat 64 length, 0, 0⟩

/-- The table after a victim has gone (R117). -/
def FlowTable.evict (f : FlowTable) (v : Nat × FlowEntry) : FlowTable :=
  { f with
    entries := removeEntry f.entries v.1
    counts := f.counts.dec v.2.assigned
    counters := { f.counters with evictions := bump f.counters.evictions } }

/-- The table after a new entry has taken the lowest free index (R116). -/
def FlowTable.create (f : FlowTable) (e : FlowEntry) : FlowTable :=
  { f with
    entries := insertEntry f.entries (lowestFree 0 f.entries) e
    counts := f.counts.inc e.assigned
    counters := { f.counters with creations := bump f.counters.creations } }

/-- A frame is refused: counted, TABLE_FULL at the first, forwarded as an unkeyed frame (R118). -/
def State.refuseFrame (s : State) (k : FlowKey) (dscp : Nat) : State × Handed :=
  let h := s.followCarrier
  let n := bump s.flows.counters.refusals
  let s1 := s.setFlows { s.flows with counters := { s.flows.counters with refusals := n } }
  let voice := s.flows.entries.countP (fun p => p.2.trafficClass == .voice)
  let pinned := s.flows.entries.countP (fun p => p.2.trafficClass != .voice && p.2.pin.isSome)
  if s.flows.counters.refusals = 0 then
    (s1.raise ⟨.tableFull, 0, 0, 1, voice, pinned, classCode (classify s.cfg.rules k dscp).1, 0⟩, h)
  else (s1, h)

/-- A frame whose key is not held creates an entry, or is refused (R116 to R118). -/
def State.createFor (s : State) (k : FlowKey) (dscp length : Nat) : State × Handed :=
  let e := s.newEntry k dscp length
  let h : Handed := ⟨e.assigned, e.trafficClass⟩
  if s.flows.entries.length < tableSize then
    ((s.setFlows (s.flows.create e)).deliverCrossings s.flows.counts, h)
  else
    match victimOf s.now s.flows.entries with
    | some v => ((s.setFlows ((s.flows.evict v).create e)).deliverCrossings s.flows.counts, h)
    | none => s.refuseFrame k dscp

/-- Stage 1 of R6 on a body and the frame's length at the LAN port. -/
def State.flowStage (s : State) (body : List Byte) (length : Nat) : State × Handed :=
  match keyOf body with
  | none =>
    (s.setFlows { s.flows with counters := { s.flows.counters with unkeyed := bump s.flows.counters.unkeyed } }, s.followCarrier)
  | some k =>
    match entryOfKey s.flows.entries k with
    | some (i, e) =>
      (s.setFlows { s.flows with entries := replaceEntry s.flows.entries i (e.touchUp s.now length) },
        ⟨e.assigned, e.trafficClass⟩)
    | none => s.createFor k (frameDscp body) length

/-- A frame dropped at stage 2 counts as shed for its class (R133). -/
def State.countShed (s : State) (c : TrafficClass) : State :=
  s.setFlows { s.flows with shed := s.flows.shed.set c (bump (s.flows.shed.get c)) }

/-! ## The downstream lookup (R119) -/

def FlowEntry.touchDown (e : FlowEntry) (now : Word) (length : Nat) : FlowEntry :=
  { e with lastSeen := now, downBytes := e.downBytes + BitVec.ofNat 64 length }

/-- A downstream body updates the entry of its reversed key; `length` is the frame's length at the LAN port. -/
def State.downLookup (s : State) (body : List Byte) (length : Nat) : State :=
  match keyOf body with
  | none => s
  | some k =>
    match entryOfKey s.flows.entries k.reversed with
    | none => s
    | some (i, e) => s.setFlows { s.flows with entries := replaceEntry s.flows.entries i (e.touchDown s.now length) }

/-! ## Ageing (R120) -/

/-- The entry has been idle for its class's timeout. -/
def State.aged (s : State) (e : FlowEntry) : Bool :=
  decide ((s.cfg.classes.get e.trafficClass).idleTimeout * 1000 ≤ s.since e.lastSeen)

/-- The counts less those of removed entries. -/
def AssignedCounts.less (c : AssignedCounts) : List (Nat × FlowEntry) → AssignedCounts
  | [] => c
  | p :: t => (c.dec p.2.assigned).less t

/-- An ageing event: the timer is re-armed, and every entry idle for its timeout is removed in one step. -/
def State.age (s : State) : State :=
  let gone := s.flows.entries.filter (fun p => s.aged p.2)
  let s1 := s.setFlows
    { s.flows with
      entries := s.flows.entries.filter (fun p => !s.aged p.2)
      counts := s.flows.counts.less gone
      counters := { s.flows.counters with expiries := bumpBy gone.length s.flows.counters.expiries }
      ageing := some (s.after 1000) }
  s1.deliverCrossings s.flows.counts

/-! ## The flow record (R186) -/

/-- The 80 bytes of a flow record. -/
def flowRecord (i : Nat) (e : FlowEntry) : List Byte :=
  leBytes 2 i ++ leBytes 1 (versionCode e.key.version) ++ [e.key.protocol] ++ leBytes 1 (classCode e.trafficClass) ++
    leBytes 1 (assignmentCode e.assigned) ++ leBytes 1 (entryStateCode e.state) ++ leBytes 1 (assignmentCode e.pin) ++
    addressBytes e.key.source ++ addressBytes e.key.dest ++ leBytes 2 e.key.srcPort.toNat ++ leBytes 2 e.key.dstPort.toNat ++
    leBytes 2 e.moves ++ leBytes 2 0 ++ leBytes 4 e.created.toNat ++ leBytes 4 e.lastSeen.toNat ++
    leBytes 8 e.upBytes.toNat ++ leBytes 8 e.downBytes.toNat ++ leBytes 8 0

/-- The answer words of READ_FLOWS. -/
def FlowCopy.words (c : FlowCopy) : List Word := [word c.written, word c.cursor]

/-- The copy's record becomes idle and its request is answered (R126). -/
def State.endCopy (s : State) (c : FlowCopy) (o : RequestOutcome) : State :=
  ({ s with exchange := { s.exchange with copy := none } }).endTimed .copy o c.words

/-- The copy goes on from a new cursor and count, or ends there (R125, R126). -/
def State.advanceCopy (s : State) (c : FlowCopy) : State :=
  if c.max ≤ c.written || tableSize ≤ c.cursor then s.endCopy c (doneOrClamped c.clamped)
  else { s with exchange := { s.exchange with copy := some c } }

/-- A running copy takes the index at its cursor (R125). A failed write stops the exchange, and the copy with it (R126). -/
def State.copyStep (s : State) : State :=
  match s.exchange.copy with
  | none => s
  | some c =>
    match entryAt s.flows.entries c.cursor with
    | none => s.advanceCopy { c with cursor := c.cursor + 1 }
    | some e =>
      let s1 := s.writeAccess (c.buffer.toNat + 80 * c.written) (flowRecord c.cursor e)
      if s1.running then s1.advanceCopy { c with cursor := c.cursor + 1, written := c.written + 1 } else s1

/-- A running copy is cancelled (R126). -/
def State.cancelCopy (s : State) (c : FlowCopy) : State := s.endCopy c .cancelled

end Sys2Proof.Machine
end

