-- ==== Sys2Proof/Machine/Walker.lean ====
section
/-! DEFINITION. The Migration Walker (sections 8.3 to 8.5): a visit, the sums, the end of a pass. -/

namespace Sys2Proof.Machine

def State.setWalk (s : State) (w : Option Walk) : State := { s with walk := w }

/-- The walk's sums after a visit changed an entry (R138). -/
def Walk.tally (w : Walk) (before after : FlowEntry) : Walk :=
  { w with
    moved := if after.assigned = before.assigned then w.moved else bump w.moved
    held := if after.state = .held ∧ before.state = .settled then bump w.held else w.held
    shed := if after.state = .shed ∧ before.state ≠ .shed then bump w.shed else w.shed }

/-- The visit of the last index ends a pass: a further pass, or the end of the walk with WALK_DONE (R141). -/
def State.endPass (s : State) (w : Walk) : State :=
  if w.passPending then
    s.setWalk (some { w with cursor := 0, passPending := false, passes := bump w.passes })
  else
    (s.setWalk none).raise ⟨.walkDone, 0, w.passes, s.flows.entries.length, w.moved, w.held, w.shed, w.triggers.toNat⟩

/-- After a visit the cursor advances, or the pass ends (R138, R141). -/
def State.advanceWalk (s : State) (w : Walk) : State :=
  if w.cursor < tableSize - 1 then s.setWalk (some { w with cursor := w.cursor + 1 }) else s.endPass w

/-- A visit (R138). The end of a pass, with WALK_DONE, comes before the delivery of an assigned count that the same visit takes across 0
(R122), and so before what that delivery raises or triggers: no rule orders the two (log entry 39). -/
def State.visit (s : State) : State :=
  match s.walk with
  | none => s
  | some w =>
    match entryAt s.flows.entries w.cursor with
    | none => s.advanceWalk w
    | some e => (s.replaceAt w.cursor e).advanceWalk (w.tally e (e.placed (s.place e.trafficClass e.pin e.assigned)))

end Sys2Proof.Machine
end

