-- ==== Sys2Proof/Machine/Policer.lean ====
section
/-! DEFINITION. The Class Policer (sections 9.5 and 9.6): ceilings, buckets, the refresh. -/

namespace Sys2Proof.Machine

def State.setPolicer (s : State) (x : Policer) : State := { s with policer := x }

/-- The depth of a class's bucket in bits (R153). -/
def depth (p : ClassRecord) : Nat := p.burst * 8

/-- The ceiling in force for a frame of a class to a radio, in bits per millisecond (R156). -/
def State.ceiling (s : State) (c : TrafficClass) (r : Radio) : Nat :=
  let p := s.cfg.classes.get c
  match p.mode with
  | .own => p.ownCeiling
  | .follow => s.cfg.lead.get (s.meter r).tier

/-- The credit of R157 step 2. -/
def Bucket.credit (b : Bucket) (now : Word) (ceiling depth : Nat) : Bucket :=
  let e := (now - b.lastCredit).toNat
  { b with tokens := min depth (b.tokens + e * ceiling), lastCredit := b.lastCredit + BitVec.ofNat 32 e }

/-- Steps 3 and 4 of R157: the bucket after a frame of n bytes, and whether it passes. -/
def Bucket.judge (b : Bucket) (n : Nat) : Bucket × Bool :=
  if 8 * n ≤ b.tokens then ({ b with tokens := b.tokens - 8 * n }, true) else ({ b with policed := bump b.policed }, false)

/-- A frame of n on-air bytes at the policer (R157): the state after it, and whether it passes. -/
def State.police (s : State) (c : TrafficClass) (r : Radio) (n : Nat) : State × Bool :=
  let ceiling := s.ceiling c r
  if ceiling = 0 then (s, true)
  else
    let b := ((s.policer.buckets.get c).credit s.now ceiling (depth (s.cfg.classes.get c))).judge n
    (s.setPolicer { s.policer with buckets := s.policer.buckets.set c b.1 }, b.2)

/-- A bucket idle this long is filled by the refresh (R159). -/
def refreshSpan : Nat := 10000000

/-- The refresh of one bucket. -/
def Bucket.refreshed (b : Bucket) (now : Word) (depth : Nat) : Bucket :=
  if refreshSpan ≤ (now - b.lastCredit).toNat then { b with tokens := depth, lastCredit := now } else b

/-- A function of class and value over the four classes. -/
def mapClasses {α β : Type} (f : TrafficClass → α → β) (p : PerClass α) : PerClass β :=
  ⟨f .voice p.voice, f .interactive p.interactive, f .standard p.standard, f .bulk p.bulk⟩

/-- A run-out of the refresh timer (R159). -/
def State.refresh (s : State) : State :=
  s.setPolicer
    { buckets := mapClasses (fun c b => b.refreshed s.now (depth (s.cfg.classes.get c))) s.policer.buckets
      refresh := some (s.after 1000) }

/-- Every bucket full, when the settings load ends (R159). -/
def State.filledPolicer (s : State) : Policer where
  buckets := mapClasses (fun c (b : Bucket) => { b with tokens := depth (s.cfg.classes.get c), lastCredit := s.now }) s.policer.buckets
  refresh := some (s.after 1000)

/-- A new burst lowers tokens to the new depth (R158). -/
def State.capBucket (s : State) (c : TrafficClass) : State :=
  let b := s.policer.buckets.get c
  s.setPolicer
    { s.policer with buckets := s.policer.buckets.set c { b with tokens := min b.tokens (depth (s.cfg.classes.get c)) } }

end Sys2Proof.Machine
end

