-- ==== Sys2Proof/Machine/Frames.lean ====
section
/-! DEFINITION. The frame paths and the port links (chapter 1): upstream, downstream on a radio and on fibre, PASSTHROUGH, link events. -/

namespace Sys2Proof.Machine

/-- The longest frame, FCS included. -/
def frameMax : Nat := 1518

/-- The shortest frame taken at the LAN port (R6). -/
def frameMin : Nat := 64

/-! ## Upstream (R3, R6) -/

/-- The uplink can send (R3): its link is UP, and a radio's record is configured. -/
def State.canSend (s : State) (u : Uplink) : Bool :=
  s.links.get u.port && (u.radio?.isNone || s.configured u)

/-- Stages 4 to 7 of R6 on a radio. -/
def State.sendOnRadio (s : State) (r : Radio) (c : AddressRecord) (cls : TrafficClass) (inner : List Byte) : State :=
  let p := s.police cls r (onAirLength c.version (s.cfg.linkLimits.get r) inner.length)
  if p.2 then p.1.sendWrapped r c cls inner else p.1

/-- Stages 3 to 7 of R6 for a frame assigned to an uplink. -/
def State.sendUpstream (s : State) (u : Uplink) (cls : TrafficClass) (frame : List Byte) : State :=
  if s.canSend u then
    match u.radio? with
    | none => s.send .f frame
    | some r =>
      match s.cfg.records.get u with
      | none => s
      | some c => s.sendOnRadio r c cls (lessFcs frame)
  else s

/-- The check at the LAN port (R6). -/
def lanFrameOk (frame : List Byte) : Bool :=
  fcsRight frame && decide (frameMin ≤ frame.length) && decide (frame.length ≤ frameMax)

/-- The stages of R6 for a frame that passed the check at the LAN port. Where the entry it creates, or the one it evicts, takes a radio's
count across 0, stages 2 to 7 are finished, with the ALLOWANCE_TIER of the deduction, before the Sequencer re-tests the radio: an order R122
and R6 leave open (log entry 45). -/
def State.upstreamStages (s : State) (frame : List Byte) : State :=
  let h := s.flowStage (lessFcs frame) frame.length
  match h.2.assigned with
  | none => h.1.countShed h.2.trafficClass
  | some u => h.1.sendUpstream u h.2.trafficClass frame

/-- A frame at the LAN port (R6). -/
def State.upstream (s : State) (frame : List Byte) : State := if lanFrameOk frame then s.upstreamStages frame else s

/-! ## The LAN stage (R2, R14) -/

/-- The length of a radio's inner frame as given to the LAN port: padded to 60, FCS added (R119). -/
def lanLength (inner : List Byte) : Nat := max 60 inner.length + 4

/-- A frame leaves the LAN port, or is discarded while its link is DOWN (R2). -/
def State.sendLan (s : State) (frame : List Byte) : State := if s.links.lan then s.send .lan frame else s

/-- A frame released by the Carry Framer: the lookup, then the LAN port (R14). -/
def State.releaseInner (s : State) (inner : List Byte) : State :=
  (s.downLookup inner (lanLength inner)).sendLan (withFcs (padTo60 inner))

/-! ## Downstream on a radio port (R12, R13, R15) -/

/-- A part of a split frame goes to the reassembly list (R15). -/
def State.takePart (s : State) (r : Radio) (sequence : Word) (part : SplitPart) (inner : List Byte) : State :=
  let f := (s.framer r).takePart ⟨sequence, part, inner, s.now⟩
  let s1 := s.setFramer r f.1
  match f.2 with
  | none => s1
  | some joined => s1.releaseInner joined

/-- A FRAME datagram by its part number (R13). -/
def State.takeFrame (s : State) (r : Radio) (h : CarryHeader) (inner : List Byte) : State :=
  match h.part with
  | 0 => if innerLengthOk inner.length then s.releaseInner inner else s.countCarryDiscard r
  | 1 => s.takePart r h.sequence .first inner
  | 2 => s.takePart r h.sequence .second inner
  | _ => s.countCarryDiscard r

/-- The three carry checks of R13. -/
def State.carryOk (s : State) (r : Radio) (h : CarryHeader) : Bool :=
  h.version == 1 && h.siteId == s.cfg.siteId && h.path == radioCode r

/-- A carry payload is checked and dispatched by kind (R13). -/
def State.takeCarry (s : State) (r : Radio) (payload : List Byte) : State :=
  let h := readCarryHeader payload
  if s.carryOk r h then
    (if h.kind = kindFrame then s.takeFrame r h (payload.drop carryHeaderLength)
     else if h.kind = kindEcho then s.matchEcho r.uplink h.probeSeq h.nonce
     else s.countCarryDiscard r)
  else s.countCarryDiscard r

/-- An IP datagram received on a radio: deducted, then checked (R12). `v` is the version that the Ethernet type names. R12 and R148 do not say
what a frame is whose IP version field disagrees with it: the model deducts it by the header of version `v` and fails it at the version
check (log entry 47). -/
def State.takeDatagram (s : State) (r : Radio) (v : IpVersion) (ip : List Byte) : State :=
  let s1 := s.deduct r .received (receivedLength v ip)
  match s1.cfg.records.get r.uplink with
  | none => s1.countCarryDiscard r
  | some c =>
    match carryPayload c v ip with
    | none => s1.countCarryDiscard r
    | some payload => s1.takeCarry r payload

/-- A frame on RA or RB (R12). R12 does not say whether a VLAN-tagged frame with an IP datagram inside is one that is 'an IP datagram': the model
takes it, as R111 and R17 take such frames, for one that is not, a carry discard without deduction (log entry 46). -/
def State.radioFrame (s : State) (r : Radio) (frame : List Byte) : State :=
  if fcsRight frame && decide (frame.length ≤ frameMax) then
    match etherVersion (lessFcs frame) with
    | none => s.countCarryDiscard r
    | some v => s.takeDatagram r v (etherPayload (lessFcs frame))
  else s

/-! ## Downstream on the fibre port (R17) -/

/-- The carry header of an echo on F, or none for any other frame. -/
def State.fibreEcho (s : State) (body : List Byte) : Option CarryHeader :=
  match s.cfg.records.fibre with
  | none => none
  | some c =>
    match fibreCarryPayload c body with
    | none => none
    | some payload =>
      let h := readCarryHeader payload
      if h.version == 1 && h.kind == kindEcho && h.path == 0 && h.siteId == s.cfg.siteId then some h else none

/-- A frame on F: an echo is taken out, any other goes to the LAN unchanged (R17). -/
def State.fibreFrame (s : State) (frame : List Byte) : State :=
  if fcsRight frame && decide (frame.length ≤ frameMax) then
    match s.fibreEcho (lessFcs frame) with
    | some h => s.matchEcho .fibre h.probeSeq h.nonce
    | none => (s.downLookup (lessFcs frame) frame.length).sendLan frame
  else s

/-! ## PASSTHROUGH (R18) -/

/-- The port a frame is bridged to. -/
def bridged : Port → Option Port
  | .lan => some .f
  | .f => some .lan
  | .ra => none
  | .rb => none

/-- A frame in PASSTHROUGH: bridged between LAN and F unchanged, discarded on a radio port. -/
def State.bridge (s : State) (o : Port) (frame : List Byte) : State :=
  match bridged o with
  | none => s
  | some out => if fcsRight frame && decide (frame.length ≤ frameMax) && s.links.get out then s.send out frame else s

/-! ## A frame arrives at a port -/

/-- A frame at a port, by the phase: PASSTHROUGH, or the path of its port. No frame arrives on a port whose link is DOWN, nor at a
part without supply (log entry 15). -/
def State.frameAt (s : State) (o : Port) (frame : List Byte) : State :=
  if s.links.get o then
    match s.phase with
    | .unpowered => s
    | .loading _ => s.bridge o frame
    | .steering =>
      match o with
      | .lan => s.upstream frame
      | .f => s.fibreFrame frame
      | .ra => s.radioFrame .a frame
      | .rb => s.radioFrame .b frame
  else s

/-! ## Port links (R1, R78, R79, R81) -/

/-- A link event at the Uplink Judge: F by R78 and R81, a radio port's link-down by R79. -/
def State.linkAtJudge (s : State) (o : Port) (up : Bool) : State :=
  match o with
  | .lan => s
  | .f => s.fibreEvent (!up) .linkDown
  | .ra => if up then s else s.failUplink .radioA .linkDown
  | .rb => if up then s else s.failUplink .radioB .linkDown

/-- A port's link changes: stored, and handed to the Judge once steering has begun (R1). -/
def State.linkChange (s : State) (o : Port) (up : Bool) : State :=
  if s.links.get o = up || s.phase = .unpowered then s
  else whenSteering (fun t => t.linkAtJudge o up) { s with links := s.links.set o up }

end Sys2Proof.Machine
end

