-- ==== Sys2Proof/Machine/Settings.lean ====
section
/-! DEFINITION. The checks and clamps of every setting, said once for the request that sets it and for the settings image (R177), and
the two directions between the settings in force and the image (R176). A check answers none where the value is refused; the
Bool beside a value says that something was brought to range. -/

namespace Sys2Proof.Machine

/-- A value brought to range, and whether it was outside. -/
def ranged (lo hi n : Nat) : Nat × Bool := (clampTo lo hi n, outside lo hi n)

/-! ## Addressing (R4, R5) -/

/-- A full record; refused for an IP version other than 4 or 6. What a version does not use of an address field is 0 (R182). -/
def checkRecord (p : RawRecord) : Option AddressRecord :=
  match versionOfCode p.version.toNat with
  | none => none
  | some v => some ⟨v, addressOf v p.localAddress, p.localPort, addressOf v p.remoteAddress, p.remotePort, p.nextHop⟩

def rawRecord (c : AddressRecord) : RawRecord :=
  ⟨word (versionCode c.version), c.localAddress, c.localPort, c.remotePort, c.remoteAddress, c.nextHop⟩

/-- A link limit (R5). -/
def checkLimit (n : Word) : Nat × Bool := ranged 1280 1600 n.toNat

/-! ## Probe and judgement settings (R52, R70) -/

/-- The probe part; the standby interval of FIBRE is ignored, and `old` stands. -/
def checkProbe (u : Uplink) (old : ProbeSettings) (p : RawProbe) : ProbeSettings × Bool :=
  let c := ranged 100 10000 p.carrying.toNat
  let t := ranged 100 2000 p.timeout.toNat
  let b := match u with
    | .fibre => (old.standby, false)
    | .radioA => ranged 1000 60000 p.standby.toNat
    | .radioB => ranged 1000 60000 p.standby.toNat
  (⟨c.1, b.1, t.1⟩, c.2 || b.2 || t.2)

def rawProbe (p : ProbeSettings) : RawProbe := ⟨word p.carrying, word p.standby, word p.timeout⟩

/-- The judgement part, refused for an inconsistent pair; the bias of FIBRE is ignored, and `old` stands. -/
def checkJudge (u : Uplink) (old : JudgeSettings) (p : RawJudge) : Option (JudgeSettings × Bool) :=
  let fr := ranged 1 8 p.failRun.toNat
  let fl := ranged 1 32 p.failLoss.toNat
  let rr := ranged 1 32 p.recoverRun.toNat
  let dl := ranged 1 1000 p.delayLimit.toNat
  let su := ranged 1 16000 p.suppress.toNat
  let d := ranged 1 65535 p.decay.toNat
  let b := match u with
    | .fibre => (old.bias, false)
    | .radioA => ranged 0 200 p.bias.toNat
    | .radioB => ranged 0 200 p.bias.toNat
  if fl.1 ≤ p.goodLoss.toNat || su.1 ≤ p.reuse.toNat then none
  else some (⟨fr.1, fl.1, p.goodLoss.toNat, rr.1, dl.1, su.1, p.reuse.toNat, d.1, b.1⟩,
    fr.2 || fl.2 || rr.2 || dl.2 || su.2 || d.2 || b.2)

def rawJudge (p : JudgeSettings) : RawJudge :=
  ⟨BitVec.ofNat 8 p.failRun, BitVec.ofNat 8 p.failLoss, BitVec.ofNat 8 p.goodLoss, BitVec.ofNat 8 p.recoverRun, word p.delayLimit,
    BitVec.ofNat 16 p.suppress, BitVec.ofNat 16 p.reuse, BitVec.ofNat 16 p.decay, BitVec.ofNat 16 p.bias⟩

/-! ## Selector and radio timers (R107, R46) -/

def checkSelector (p : RawSelector) : SelectorSettings × Bool :=
  let h := ranged 0 3600 p.returnHold.toNat
  let m := ranged 0 500 p.switchMargin.toNat
  let n := ranged 1 10 p.switchSustain.toNat
  (⟨h.1, m.1, n.1⟩, h.2 || m.2 || n.2)

def rawSelector (p : SelectorSettings) : RawSelector := ⟨word p.returnHold, word p.switchMargin, word p.switchSustain⟩

/-- The timers and policy of a radio; refused for a policy other than COLD or WARM. -/
def checkTimers (p : RawTimers) : Option (RadioTimers × Bool) :=
  match policyOfCode p.policy.toNat with
  | none => none
  | some pol =>
    let w := ranged 1 300 p.warmMin.toNat
    let a := ranged 10 1800 p.attachLimit.toNat
    let r := ranged 0 3600 p.retryWait.toNat
    let c := ranged 0 86400 p.coolHold.toNat
    some (⟨w.1, a.1, r.1, c.1, pol⟩, w.2 || a.2 || r.2 || c.2)

def rawTimers (p : RadioTimers) : RawTimers :=
  ⟨word p.warmMin, word p.attachLimit, word p.retryWait, word p.coolHold, word (policyCode p.policy)⟩

/-! ## Class records (R153, R154) -/

/-- The two admission limits: VOICE's are SPENT and RESERVE, neither read nor checked. -/
def checkAdmission (c : TrafficClass) (p : RawClass) : Option (AllowanceTier × PowerTier) :=
  if c = .voice then some (.spent, .reserve)
  else
    match allowanceTierOfCode p.radioAdmission.toNat, powerTierOfCode p.powerAdmission.toNat with
    | some a, some t => some (a, t)
    | some _, none => none
    | none, some _ => none
    | none, none => none

def checkClass (c : TrafficClass) (p : RawClass) : Option (ClassRecord × Bool) :=
  match checkAdmission c p, policerModeOfCode p.mode.toNat with
  | some lim, some mode =>
    let i := ranged 1 65535 p.idleTimeout.toNat
    let o := ranged 0 1000000 p.ownCeiling.toNat
    let b := ranged 1500 1048576 p.burst.toNat
    some (⟨i.1, lim.1, lim.2, mode, o.1, b.1⟩, i.2 || o.2 || b.2)
  | some _, none => none
  | none, some _ => none
  | none, none => none

def rawClass (p : ClassRecord) : RawClass :=
  ⟨word p.idleTimeout, BitVec.ofNat 8 (allowanceTierCode p.radioAdmission), BitVec.ofNat 8 (powerTierCode p.powerAdmission),
    BitVec.ofNat 8 (policerModeCode p.mode), word p.ownCeiling, word p.burst⟩

/-! ## Class rules (R114) -/

/-- The pin field of a valid rule. -/
def checkRulePin (p : RawRule) : Option (Option Uplink) :=
  if p.hasPin then (rulePinOfCode p.pin.toNat).map some else some none

/-- The longest prefix of a version. -/
def prefixMax : IpVersion → Nat
  | .v4 => 32
  | .v6 => 128

/-- The destination field of a valid rule. -/
def checkRuleDest (p : RawRule) : Option (Option DestRange × Bool) :=
  if p.hasDest then
    match versionOfCode p.destVersion.toNat with
    | none => none
    | some v =>
      let n := ranged 0 (prefixMax v) p.destLength.toNat
      some (some ⟨v, n.1, addressOf v p.destAddress⟩, n.2)
  else some (none, false)

/-- The port range: a high below its low is brought up to the low. -/
def checkRulePorts (p : RawRule) : Option (Nat × Nat) × Bool :=
  if p.hasPorts then
    (some (p.portLow.toNat, max p.portLow.toNat p.portHigh.toNat), decide (p.portHigh.toNat < p.portLow.toNat))
  else (none, false)

def checkRuleDscp (p : RawRule) : Option Nat × Bool :=
  if p.hasDscp then (some (min 63 p.dscp.toNat), decide (63 < p.dscp.toNat)) else (none, false)

/-- A rule: `some (none, …)` is an invalid rule to be stored, `none` a refusal. -/
def checkRule (p : RawRule) : Option (Option Rule × Bool) :=
  if p.valid then
    match ruleProtocolOfCode p.protocol.toNat, classOfCode p.trafficClass.toNat, checkRulePin p, checkRuleDest p with
    | some proto, some cls, some pin, some dest =>
      some (some ⟨proto, (checkRulePorts p).1, (checkRuleDscp p).1, dest.1, cls, pin⟩,
        (checkRulePorts p).2 || (checkRuleDscp p).2 || dest.2)
    | _, _, _, _ => none
  else some (none, false)

/-- A rule as it is stored and answered: absent fields 0, an absent pin 3 (R185). -/
def rawRule : Option Rule → RawRule
  | none => ⟨false, false, false, false, false, 0, 0, 3, 0, 0, 0, 0, 0, 0⟩
  | some r =>
    { valid := true
      hasPorts := r.ports.isSome
      hasDscp := r.dscp.isSome
      hasDest := r.dest.isSome
      hasPin := r.pin.isSome
      protocol := BitVec.ofNat 8 (ruleProtocolCode r.protocol)
      trafficClass := BitVec.ofNat 8 (classCode r.trafficClass)
      pin := BitVec.ofNat 8 (assignmentCode r.pin)
      dscp := BitVec.ofNat 8 (r.dscp.getD 0)
      portLow := BitVec.ofNat 16 ((r.ports.map (·.1)).getD 0)
      portHigh := BitVec.ofNat 16 ((r.ports.map (·.2)).getD 0)
      destVersion := BitVec.ofNat 8 ((r.dest.map (fun d => versionCode d.version)).getD 0)
      destLength := BitVec.ofNat 8 ((r.dest.map (·.length)).getD 0)
      destAddress := (r.dest.map (·.address)).getD 0 }

/-! ## Meter, lead ceilings, watch (R150, R155, R28) -/

/-- The largest period allowance. -/
def allowanceMax : Nat := 2 ^ 40 - 1

/-- A meter's settings; refused for an inconsistent pair. -/
def checkMeter (p : RawMeter) : Option (MeterSettings × Bool) :=
  let a := ranged 0 allowanceMax p.allowance.toNat
  let l := ranged 1 255 p.leanFrac.toNat
  if l.1 ≤ p.scarceFrac.toNat then none else some (⟨a.1, l.1, p.scarceFrac.toNat⟩, a.2 || l.2)

def rawMeter (p : MeterSettings) : RawMeter := ⟨BitVec.ofNat 64 p.allowance, word p.leanFrac, word p.scarceFrac⟩

def ceilingMax : Nat := 1000000

def checkLead (p : PerTier Word) : PerTier Nat × Bool :=
  let a := ranged 0 ceilingMax p.normal.toNat
  let b := ranged 0 ceilingMax p.lean.toNat
  let c := ranged 0 ceilingMax p.scarce.toNat
  let d := ranged 0 ceilingMax p.spent.toNat
  (⟨a.1, b.1, c.1, d.1⟩, a.2 || b.2 || c.2 || d.2)

def rawLead (p : PerTier Nat) : PerTier Word := ⟨word p.normal, word p.lean, word p.scarce, word p.spent⟩

/-- A function over the eight inputs. -/
def mapInputs {α β : Type} (f : α → β) (p : PerInput α) : PerInput β :=
  ⟨f p.mainsPresent, f p.batteryLow, f p.opticalLoss, f p.radioAReady, f p.radioBReady, f p.lineBusy1, f p.lineBusy2, f p.aux⟩

def filterMax : Nat := 255

def checkWatch (p : RawWatch) : WatchSettings × Bool :=
  (⟨p.mask, p.pattern, mapInputs (fun w => min filterMax w.toNat) p.filters⟩,
    (mapInputs (fun w => decide (filterMax < w.toNat)) p.filters).toList.any id)

def rawWatch (p : WatchSettings) : RawWatch := ⟨p.mask, p.pattern, mapInputs (fun n => BitVec.ofNat 16 n) p.filters⟩

/-! ## The image (R176, R177) -/

def mapUplinks {α β : Type} (f : Uplink → α → β) (p : PerUplink α) : PerUplink β :=
  ⟨f .fibre p.fibre, f .radioA p.radioA, f .radioB p.radioB⟩

def mapRadios {α β : Type} (f : Radio → α → β) (p : PerRadio α) : PerRadio β := ⟨f .a p.a, f .b p.b⟩

/-- A copy of every item as it stands, each radio's R with it (R180). -/
def imageOf (c : Settings) (remaining : PerRadio Nat) : Image where
  records := mapUplinks (fun _ r => r.map rawRecord) c.records
  siteId := c.siteId
  linkLimits := mapRadios (fun _ n => word n) c.linkLimits
  probes := mapUplinks (fun _ p => rawProbe p) c.probes
  judges := mapUplinks (fun _ p => rawJudge p) c.judges
  selector := rawSelector c.selector
  timers := mapRadios (fun _ p => rawTimers p) c.timers
  classes := mapClasses (fun _ p => rawClass p) c.classes
  rules := c.rules.map rawRule
  lead := rawLead c.lead
  watch := rawWatch c.watch
  meters := mapRadios (fun _ p => rawMeter p) c.meters
  remaining := mapRadios (fun _ n => BitVec.ofNat 64 n) remaining

/-- Three checked values of the uplinks, or none when one is refused. -/
def allUplinks {α : Type} (p : PerUplink (Option α)) : Option (PerUplink α) :=
  match p.fibre, p.radioA, p.radioB with
  | some x, some y, some z => some ⟨x, y, z⟩
  | _, _, _ => none

def bothRadios {α : Type} (p : PerRadio (Option α)) : Option (PerRadio α) :=
  match p.a, p.b with
  | some x, some y => some ⟨x, y⟩
  | _, _ => none

def allClasses {α : Type} (p : PerClass (Option α)) : Option (PerClass α) :=
  match p.voice, p.interactive, p.standard, p.bulk with
  | some w, some x, some y, some z => some ⟨w, x, y, z⟩
  | _, _, _, _ => none

/-- The checked values of a list, or none when one is refused. -/
def allRules : List RawRule → Option (List (Option Rule))
  | [] => some []
  | p :: t =>
    match checkRule p, allRules t with
    | some x, some xs => some (x.1 :: xs)
    | _, _ => none

/-- An optional record: absent stays unconfigured, a full one is checked. -/
def checkStoredRecord : Option RawRecord → Option (Option AddressRecord)
  | none => some none
  | some p => (checkRecord p).map some

/-- The settings an image puts in force: every value checked as the request that sets it checks it, none where one is an identifier out
of range or an inconsistent pair (R177). Fibre's unused standby interval and bias are those of the factory settings. -/
def settingsOf (i : Image) : Option Settings :=
  match allUplinks (mapUplinks (fun _ r => checkStoredRecord r) i.records),
    allUplinks (mapUplinks (fun u p => checkJudge u (Settings.factoryJudge u) p) i.judges),
    bothRadios (mapRadios (fun _ p => checkTimers p) i.timers),
    allClasses (mapClasses (fun c p => checkClass c p) i.classes),
    allRules i.rules,
    bothRadios (mapRadios (fun _ p => checkMeter p) i.meters) with
  | some records, some judges, some timers, some classes, some rules, some meters =>
    some
      { records := records
        siteId := i.siteId
        linkLimits := mapRadios (fun _ n => (checkLimit n).1) i.linkLimits
        probes := mapUplinks (fun u p => (checkProbe u (Settings.factoryProbe u) p).1) i.probes
        judges := mapUplinks (fun _ p => p.1) judges
        selector := (checkSelector i.selector).1
        timers := mapRadios (fun _ p => p.1) timers
        classes := mapClasses (fun _ p => p.1) classes
        rules := rules
        lead := (checkLead i.lead).1
        watch := (checkWatch i.watch).1
        meters := mapRadios (fun _ p => p.1) meters }
  | _, _, _, _, _, _ => none

end Sys2Proof.Machine
end

