-- ==== Sys2Proof/Machine/Startup.lean ====
section
/-! DEFINITION. Power, device reset, the load and its end, STORE (chapter 11). -/

namespace Sys2Proof.Machine

/-! ## Power and reset (R18, R50, R128, R175, R181) -/

/-- What neither the loss of supply nor a reset changes: the levels at the input pins, the image, the host's memory, the frames that
have left, and the model's own fields. -/
def State.outside (s t : State) : State :=
  { t with
    conditions := { t.conditions with raw := s.conditions.raw }
    store := { t.store with image := s.store.image }
    memory := s.memory
    wire := s.wire
    access := s.access
    supply := s.supply
    pending := s.pending }

/-- Supply is applied: reset values, every port DOWN, PASSTHROUGH with the load at block 0 (R177). -/
def State.powerUp (s : State) : State := s.outside State.reset

/-- The supply is lost: nothing is kept but the image as it stands (R181). -/
def State.powerDown (s : State) : State := { s.outside State.reset with phase := .unpowered }

/-- A device reset: the whole part except the allowance meters, the port links and the time; the load report stays until the next
load ends (R1, R175, R176, R178). -/
def State.resetDevice (s : State) : State :=
  let t := s.outside State.reset
  { t with
    phase := .loading ⟨false, 0, 0, 0⟩
    clock := s.clock
    links := s.links
    meters := s.meters
    cfg := { t.cfg with meters := s.cfg.meters }
    store := { t.store with report := s.store.report } }

/-! ## The end of the load (R178, R179) -/

/-- The meters when the load ends (R146, R147, R178). `stored` is the R of each radio in the image; 0 when no image loads. -/
def startMeter (powerOn : Bool) (p : MeterSettings) (stored : Nat) (m : Meter) : Meter :=
  let r := min (if powerOn then stored else m.remaining) p.allowance
  ⟨r, if powerOn then 0 else m.used, if powerOn then 0 else m.overage, tierOf p r⟩

/-- The blocks take their loaded settings, and the timers of R179 start. -/
def State.startBlocks (s : State) (p : LoadProgress) (c : Settings) (stored : PerRadio Nat) (report : LoadReport) : State :=
  let s1 : State :=
    { s with
      phase := .steering
      cfg := c
      conditions := s.conditions.start c.watch
      meters := ⟨startMeter p.powerOn c.meters.a stored.a s.meters.a, startMeter p.powerOn c.meters.b stored.b s.meters.b⟩
      selector := { s.selector with evaluation := some (s.after 1000) }
      flows := { s.flows with ageing := some (s.after 1000) }
      probers := mapUplinks (fun _ (q : Prober) => { q with timer := some s.now }) s.probers
      store := { s.store with report := report } }
  { s1 with policer := s1.filledPolicer }

/-- A starting link-down event of R1. -/
def State.startLink (s : State) (o : Port) : State := if s.links.get o then s else s.linkAtJudge o false

/-- The starting deliveries: links (R1), the alarm (R25), unprobed fibre (R81), the policy warms (R50). R92 and R179 give no order between
the policy warms and the evaluations that the deliveries before them cause: those wait until the warms are made (log entry 33). -/
def State.startDeliveries (s : State) : State :=
  let s1 := ((s.startLink .f).startLink .ra).startLink .rb
  let s2 := if s1.level .opticalLoss then s1.fibreEvent true .opticalLoss else s1
  let s3 := if s2.configured .fibre then s2 else s2.deriveFibre .fibreLevels false
  s3.policyWarms

/-- The load ends: PASSTHROUGH ends and the part begins steering (R179). -/
def State.endLoad (s : State) (p : LoadProgress) (c : Settings) (stored : PerRadio Nat) (r : LoadResult) : State :=
  (s.startBlocks p c stored ⟨r, p.corrected, p.lastCorrected⟩).startDeliveries

/-- The load ends on factory values (R177). -/
def State.endLoadFactory (s : State) (p : LoadProgress) (r : LoadResult) : State := s.endLoad p Settings.factory (.all 0) r

/-- The load ends with every block read: the image, or factory values where a loaded value is refused (R177). -/
def State.endLoadImage (s : State) (p : LoadProgress) (i : Image) : State :=
  match settingsOf i with
  | none => s.endLoadFactory p .defaultsError
  | some c =>
    s.endLoad p c (mapRadios (fun _ n => n.toNat) i.remaining) (if p.corrected = 0 then .loaded else .loadedCorrected)

/-- The image length of format 1, in blocks (R176). -/
def imageBlocks : Nat := 128

/-- The progress after a block without an uncorrectable error. -/
def LoadProgress.after (p : LoadProgress) (b : BlockRead) : LoadProgress :=
  match b with
  | .corrected => { p with next := p.next + 1, corrected := p.corrected + 1, lastCorrected := p.next }
  | .clean => { p with next := p.next + 1 }
  | .uncorrectable => p

/-- One block of the image is read and checked by its code (R177). -/
def State.readBlock (s : State) (p : LoadProgress) (b : BlockRead) : State :=
  match b with
  | .uncorrectable => s.endLoadFactory p .defaultsError
  | .clean | .corrected =>
    match s.store.image with
    | none => s.endLoadFactory (p.after b) .defaultsEmpty
    | some i =>
      if imageBlocks ≤ p.next + 1 then s.endLoadImage (p.after b) i else { s with phase := .loading (p.after b) }

/-- A block read while the settings load. -/
def State.loadBlock (s : State) (b : BlockRead) : State :=
  match s.phase with
  | .loading p => s.readBlock p b
  | .unpowered => s
  | .steering => s

/-! ## STORE (R180, R181) -/

/-- The copy a STORE takes. -/
def State.storeCopy (s : State) : Image := imageOf s.cfg ⟨s.meters.a.remaining, s.meters.b.remaining⟩

/-- The block writes of a whole STORE: the invalid marker, blocks 1 to 127, the header. -/
def storeWrites : Nat := 129

def State.setStore (s : State) (x : SettingsStore) : State := { s with store := x }

/-- The answer words of STORE. -/
def State.storeWords (s : State) (r : StoreRun) (written : Nat) : List Word := [word written, word (s.since r.started)]

/-- The supply is out of range at a block write: the STORE stops there, with block 0 holding the invalid marker, and is answered
SUPPLY_FAULT with the blocks written before the stop (R181; the ms word is log entry 30). -/
def State.stopStore (s : State) (r : StoreRun) : State :=
  (s.setStore { s.store with image := none, running := none }).endTimed .store .supplyFault (s.storeWords r r.written)

/-- A block write of a running STORE completes: the marker of step 2 makes the header invalid, and with the header of step 4 the image is
whole (R180). Until the marker is written the old image stands (R181; log entry 20). -/
def State.blockWritten (s : State) (r : StoreRun) : State :=
  let n := r.written + 1
  if storeWrites ≤ n then
    (s.setStore { s.store with image := some r.copy, running := none }).endTimed .store .done (s.storeWords r n)
  else s.setStore { s.store with image := none, running := some { r with written := n } }

/-- STORE_BLOCK_WRITTEN: the monitor is watched for the whole of steps 2 to 4, so a write at a reading out of range stops the STORE
(R181); nothing without a running STORE. -/
def State.storeBlock (s : State) : State :=
  match s.store.running with
  | none => s
  | some r => if s.supply then s.blockWritten r else s.stopStore r

/-- SUPPLY_FAULT: the supply goes out of range during a STORE (R181). -/
def State.storeFault (s : State) : State :=
  match s.store.running with
  | none => s
  | some r => s.stopStore r

end Sys2Proof.Machine
end

