-- ==== Sys2Proof/Machine/Exchange.lean ====
section
/-! DEFINITION. The Exchange Unit beside its requests (chapter 10): CONTROL, the start, the sweep, the cause bits, the area base. -/

namespace Sys2Proof.Machine

/-! ## Sweeps (R165, R168) -/

/-- The board has 32 slots. -/
def boardSize : Nat := 32

/-- The queue holds at most 8 requests. -/
def queueSize : Nat := 8

/-- A sweep starts; while one is in progress the start is kept pending. -/
def State.startSweep (s : State) : State :=
  match s.exchange.sweepAt with
  | some _ => s.setExchange { s.exchange with sweepPending := true }
  | none => s.setExchange { s.exchange with sweepAt := some 0 }

/-- The sweep timer as SWEEP now sets it. -/
def State.sweepDue (s : State) : Option Word := if s.regs.sweep = 0 then none else some (s.after s.regs.sweep)

/-- A run-out of the sweep timer: re-armed, and a sweep starts. -/
def State.sweepTimerOut (s : State) : State :=
  (s.setExchange { s.exchange with sweepTimer := s.sweepDue }).startSweep

/-- The notice of a detached request (R168, R169). -/
def State.raiseDetached (s : State) (slot : Nat) (kind : Nat) (tag : Word) : State :=
  s.raise ⟨.exchangeFault, slot, tokenPosted, 0, kind, tag.toNat, 1, 0⟩

/-- The queued request of a slot. -/
def State.queuedAt (s : State) (slot : Nat) : Option QueuedRequest := s.exchange.queue.find? (fun q => q.slot.val == slot)

/-- The in-flight request still tied to a slot. -/
def State.tiedAt (s : State) (slot : Nat) : Option InFlight := s.exchange.inFlight.find? (fun f => f.tied && f.slot.val == slot)

/-- The queue without the requests of a slot. -/
def State.dropQueued (s : State) (slot : Nat) : State :=
  s.setExchange { s.exchange with queue := s.exchange.queue.filter (fun q => q.slot.val != slot) }

/-- The in-flight requests of a slot are no longer tied to it. -/
def State.untie (s : State) (slot : Nat) : State :=
  s.setExchange
    { s.exchange with
      inFlight := s.exchange.inFlight.map (fun f => if f.slot.val = slot then { f with tied := false } else f) }

/-- An older request of the slot is detached before the slot is taken anew (R168). -/
def State.detach (s : State) (slot : Nat) : State :=
  match s.queuedAt slot with
  | some q => (s.dropQueued slot).raiseDetached slot q.kind.toNat q.tag
  | none =>
    match s.tiedAt slot with
    | some f => (s.untie slot).raiseDetached slot (timedKind f.owner) f.tag
    | none => s

/-- A little-endian word of host memory. -/
def State.memoryWord (s : State) (a : Nat) : Word := word (leNat (readBytes s.memory a 4))

/-- The body of a slot has 28 words. -/
def bodyWords : Nat := 28

/-- A request as the slot holds it (R184). -/
def State.requestIn (s : State) (slot : Fin 32) : QueuedRequest :=
  let base := s.area (slotOffset slot.val)
  ⟨slot, readByte s.memory (base + 1), s.memoryWord (base + 4),
    (List.range bodyWords).map (fun i => s.memoryWord (base + 16 + 4 * i))⟩

/-- A POSTED slot is taken: its request read, an older one detached, the token written TAKEN, the request queued. -/
def State.takeSlot (s : State) (slot : Fin 32) : State :=
  let s1 := s.readAccess
  if s1.running then
    let q := s1.requestIn slot
    let s2 := s1.detach slot.val
    let s3 := s2.writeAccess (s2.area (slotOffset slot.val)) (leBytes 1 tokenTaken)
    if s3.running then s3.setExchange { s3.exchange with queue := s3.exchange.queue ++ [q] } else s3
  else s1

/-- The sweep goes on to the next slot, or ends; an end with the flag set takes one more sweep at once. -/
def State.nextSlot (s : State) (n : Nat) : State :=
  if n + 1 < boardSize then s.setExchange { s.exchange with sweepAt := some (n + 1) }
  else if s.exchange.sweepPending then s.setExchange { s.exchange with sweepAt := some 0, sweepPending := false }
  else s.setExchange { s.exchange with sweepAt := none }

/-- A sweep reads one slot's token, and takes a POSTED slot when the queue has room (R165). -/
def State.sweepOne (s : State) : State :=
  match s.exchange.sweepAt with
  | none => s
  | some n =>
    let s1 := s.readAccess
    let s2 :=
      if s1.running && decide (s1.token n = tokenPosted) && decide (s1.exchange.queue.length < queueSize) then
        s1.takeSlot (Fin.ofNat 32 n)
      else s1
    if s2.running then s2.nextSlot n else s2

/-! ## Starting and stopping (R163, R174) -/

/-- The header is written at a start: write count, lost count, read count, state word (R163). -/
def State.writeHeader (s : State) : State :=
  let s1 := s.writeAccess (s.area 4) (leBytes 2 0)
  let s2 := s1.writeAccess (s1.area 6) (leBytes 2 0)
  let s3 := s2.writeAccess (s2.area 8) (leBytes 2 0)
  s3.writeStateWord

/-- The EXCHANGE_STARTED notice (R163). -/
def State.raiseStarted (s : State) : State :=
  s.raise ⟨.exchangeStarted, 0, 0, 1, loadResultCode s.store.report.result, s.store.report.corrected,
    s.store.report.lastCorrected, identValue⟩

/-- The exchange starts: header, notice, sweep timer, one sweep (R163). RUN is 1 already. -/
def State.startExchange (s : State) : State :=
  let s1 := (s.setExchange { s.exchange with writeCount := 0, lostCount := 0 }).writeHeader
  let s2 := s1.raiseStarted
  if s2.running then (s2.setExchange { s2.exchange with sweepTimer := s2.sweepDue }).startSweep else s2

/-! ## Register writes (R161, R162) -/

/-- A CONTROL write's fields are stored (R183). -/
def Registers.writeControl (g : Registers) (w : Word) : Registers := { g with control := w &&& controlMask }

/-- A write to CONTROL (R161): DEVICE_RESET resets; else every field is stored, and RUN and SWEEP have their effects. -/
def State.controlWrite (s : State) (w : Word) : State :=
  if writesReset w then s.resetDevice
  else
    let s1 := s.setRegs (s.regs.writeControl w)
    if s1.running && !s.running then s1.startExchange
    else if s.running && !s1.running then s1.stopExchange
    else if s1.running && s1.regs.sweep != s.regs.sweep then
      s1.setExchange { s1.exchange with sweepTimer := s1.sweepDue }
    else s1

/-- A write of 1 to a cause bit clears it (R162). -/
def State.clearCause (s : State) (bits : Word) : State := s.setRegs { s.regs with cause := s.regs.cause &&& ~~~bits }

/-- The low 12 bits of AREA_LOW always read 0 (R161). -/
def areaLowMask : Word := 0xFFFFF000

/-- A write to AREA_LOW or AREA_HIGH: stored while RUN is 0, ignored while it is 1 (R161). -/
def State.writeArea (s : State) (half : AreaHalf) (value : Word) : State :=
  if s.running then s
  else
    match half with
    | .low => s.setRegs { s.regs with areaLow := value &&& areaLowMask }
    | .high => s.setRegs { s.regs with areaHigh := value }

/-- A write to a register of the window (R161, R162, R183): IDENT is read only, and a NUDGE is ignored while RUN is 0. -/
def State.writeRegister (s : State) (r : RegisterName) (value : Word) : State :=
  match r with
  | .ident => s
  | .control => s.controlWrite value
  | .cause => s.clearCause value
  | .nudge => if s.running then s.startSweep else s
  | .areaLow => s.writeArea .low value
  | .areaHigh => s.writeArea .high value

/-- A write at an offset of the window reaches the register that lies there (R183). -/
def State.writeWindow (s : State) (offset : Nat) (value : Word) : State :=
  match registerAt offset with
  | some r => s.writeRegister r value
  | none => s

/-- A PCIe link reset clears RUN and stops the exchange (R174). -/
def State.linkReset (s : State) : State := if s.running then s.clearRun else s

end Sys2Proof.Machine
end

