-- ==== Sys2Proof/Machine/Operands.lean ====
section
/-! DEFINITION. The parameters of each request kind, read from the 28 body words its slot held (section 12.4). -/

namespace Sys2Proof.Machine

/-- Body word `i`. -/
def bodyWord (b : List Word) (i : Nat) : Word := b.getD i 0

/-- Byte `j` of a word, byte 0 its lowest-addressed byte (R182). -/
def wordByte (w : Word) (j : Nat) : Byte := BitVec.ofNat 8 (w.toNat / 256 ^ j)

def lowHalf (w : Word) : BitVec 16 := BitVec.ofNat 16 w.toNat
def highHalf (w : Word) : BitVec 16 := BitVec.ofNat 16 (w.toNat / 65536)

/-- Byte `j` of body word `i`. -/
def bodyByte (b : List Word) (i j : Nat) : Byte := wordByte (bodyWord b i) j

def bodyLow (b : List Word) (i : Nat) : BitVec 16 := lowHalf (bodyWord b i)
def bodyHigh (b : List Word) (i : Nat) : BitVec 16 := highHalf (bodyWord b i)

/-- A 64-bit value in two words, low word first (R182). -/
def bodyPair (b : List Word) (i : Nat) : BitVec 64 :=
  BitVec.ofNat 64 ((bodyWord b i).toNat + 2 ^ 32 * (bodyWord b (i + 1)).toNat)

/-- An address field in four words. -/
def bodyAddress (b : List Word) (i : Nat) : Address :=
  addressOfWords (bodyWord b i) (bodyWord b (i + 1)) (bodyWord b (i + 2)) (bodyWord b (i + 3))

/-- A hardware address in the first six bytes of two words. -/
def bodyMac (b : List Word) (i : Nat) : Mac :=
  BitVec.ofNat 48 (beNat ((wordBytes (bodyWord b i) ++ wordBytes (bodyWord b (i + 1))).take 6))

def uplinkParamsOf (b : List Word) : UplinkParams where
  uplink := bodyWord b 0
  addressing := bodyByte b 1 0
  probePart := bodyByte b 1 1
  judgePart := bodyByte b 1 2
  record := ⟨bodyWord b 2, bodyAddress b 3, bodyLow b 7, bodyHigh b 7, bodyAddress b 8, bodyMac b 12⟩
  linkLimit := bodyWord b 14
  siteId := bodyWord b 15
  probe := ⟨bodyWord b 16, bodyWord b 17, bodyWord b 18⟩
  judge := ⟨bodyByte b 19 0, bodyByte b 19 1, bodyByte b 19 2, bodyByte b 19 3, bodyWord b 20, bodyLow b 21, bodyHigh b 21,
    bodyLow b 22, bodyHigh b 22⟩

def selectorOf (b : List Word) : RawSelector := ⟨bodyWord b 0, bodyWord b 1, bodyWord b 2⟩

def classOf (b : List Word) : RawClass :=
  ⟨bodyWord b 1, bodyByte b 2 0, bodyByte b 2 1, bodyByte b 2 2, bodyWord b 3, bodyWord b 4⟩

def ruleOf (b : List Word) : RawRule where
  valid := (bodyWord b 1).getLsbD 0
  hasPorts := (bodyWord b 1).getLsbD 1
  hasDscp := (bodyWord b 1).getLsbD 2
  hasDest := (bodyWord b 1).getLsbD 3
  hasPin := (bodyWord b 1).getLsbD 4
  protocol := bodyByte b 2 0
  trafficClass := bodyByte b 2 1
  pin := bodyByte b 2 2
  dscp := bodyByte b 2 3
  portLow := bodyLow b 3
  portHigh := bodyHigh b 3
  destVersion := bodyByte b 4 0
  destLength := bodyByte b 4 1
  destAddress := bodyAddress b 5

def keyIn (b : List Word) : RawKey :=
  ⟨bodyByte b 0 0, bodyByte b 0 1, bodyAddress b 1, bodyAddress b 5, bodyLow b 9, bodyHigh b 9⟩

def timersOf (b : List Word) : RawTimers := ⟨bodyWord b 1, bodyWord b 2, bodyWord b 3, bodyWord b 4, bodyWord b 5⟩

def meterOf (b : List Word) : RawMeter := ⟨bodyPair b 1, bodyWord b 3, bodyWord b 4⟩

def leadOf (b : List Word) : PerTier Word := ⟨bodyWord b 0, bodyWord b 1, bodyWord b 2, bodyWord b 3⟩

/-- Filter times two to a word, input 0 first. -/
def watchOf (b : List Word) : RawWatch where
  mask := bodyByte b 0 0
  pattern := bodyByte b 0 1
  filters := ⟨bodyLow b 1, bodyHigh b 1, bodyLow b 2, bodyHigh b 2, bodyLow b 3, bodyHigh b 3, bodyLow b 4, bodyHigh b 4⟩

/-! ## Answer words of stored settings (section 12.4) -/

/-- The words of SET_RULE as stored, index first. -/
def ruleWords (index : Nat) (r : Option Rule) : List Word :=
  let p := rawRule r
  [word index,
   word (boolCode p.valid + 2 * boolCode p.hasPorts + 4 * boolCode p.hasDscp + 8 * boolCode p.hasDest + 16 * boolCode p.hasPin),
   bytesWord p.protocol.toNat p.trafficClass.toNat p.pin.toNat p.dscp.toNat,
   halves p.portLow.toNat p.portHigh.toNat,
   bytesWord p.destVersion.toNat p.destLength.toNat 0 0] ++ addressWords p.destAddress

/-- The words of SET_CLASS as stored, class first. -/
def classWords (c : TrafficClass) (p : ClassRecord) : List Word :=
  [word (classCode c), word p.idleTimeout,
   bytesWord (allowanceTierCode p.radioAdmission) (powerTierCode p.powerAdmission) (policerModeCode p.mode) 0,
   word p.ownCeiling, word p.burst]

def selectorWords (p : SelectorSettings) : List Word := [word p.returnHold, word p.switchMargin, word p.switchSustain]

def timersWords (r : Radio) (p : RadioTimers) : List Word :=
  [word (radioCode r), word p.warmMin, word p.attachLimit, word p.retryWait, word p.coolHold, word (policyCode p.policy)]

def leadWords (p : PerTier Nat) : List Word := [word p.normal, word p.lean, word p.scarce, word p.spent]

/-- The meter answer. -/
def meterWords (r : Radio) (p : MeterSettings) (m : Meter) : List Word :=
  [bytesWord (radioCode r) (allowanceTierCode m.tier) p.leanFrac p.scarceFrac] ++ wordPair p.allowance ++ wordPair m.remaining ++
    wordPair m.used ++ wordPair m.overage

end Sys2Proof.Machine
end

