-- ==== Sys2Proof/Machine/Requests.lean ====
section
/-! DEFINITION. The requests of the catalogue (section 10.7): what each does when its owner takes it at dispatch, and its answer. -/

namespace Sys2Proof.Machine

/-- The request kinds of the catalogue. -/
inductive RequestKind where
  | status | snapshot | enterHold | leaveHold | setCarrier | setUplink | setSelector | setClass | setRule | pin | readFlows
  | probeBurst | radioPower | setRadioTimers | setAllowance | openPeriod | setRemaining | setLead | setWatch | store | cancel
deriving DecidableEq, Repr

def requestCode : RequestKind → Nat
  | .status => 0x01
  | .snapshot => 0x02
  | .enterHold => 0x03
  | .leaveHold => 0x04
  | .setCarrier => 0x05
  | .setUplink => 0x06
  | .setSelector => 0x07
  | .setClass => 0x08
  | .setRule => 0x09
  | .pin => 0x0A
  | .readFlows => 0x0B
  | .probeBurst => 0x0C
  | .radioPower => 0x0D
  | .setRadioTimers => 0x0E
  | .setAllowance => 0x0F
  | .openPeriod => 0x10
  | .setRemaining => 0x11
  | .setLead => 0x12
  | .setWatch => 0x13
  | .store => 0x14
  | .cancel => 0x15

def requestOfCode : Nat → Option RequestKind
  | 0x01 => some .status
  | 0x02 => some .snapshot
  | 0x03 => some .enterHold
  | 0x04 => some .leaveHold
  | 0x05 => some .setCarrier
  | 0x06 => some .setUplink
  | 0x07 => some .setSelector
  | 0x08 => some .setClass
  | 0x09 => some .setRule
  | 0x0A => some .pin
  | 0x0B => some .readFlows
  | 0x0C => some .probeBurst
  | 0x0D => some .radioPower
  | 0x0E => some .setRadioTimers
  | 0x0F => some .setAllowance
  | 0x10 => some .openPeriod
  | 0x11 => some .setRemaining
  | 0x12 => some .setLead
  | 0x13 => some .setWatch
  | 0x14 => some .store
  | 0x15 => some .cancel
  | _ => none

/-- An answer to a request of a kind. -/
def State.reply (s : State) (t : Ticket) (k : RequestKind) (o : RequestOutcome) (body : List Word) : State :=
  s.answer t.slot (requestCode k) t.tag o body

/-- A held-only request: WRONG_MODE in STEERING before any other check (R105). -/
def State.heldOnly (s : State) (t : Ticket) (k : RequestKind) (f : State → State) : State :=
  match s.selector.mode with
  | .steering => s.reply t k .wrongMode []
  | .hold => f s

/-! ## STATUS (R172) -/

/-- The three words of an uplink in STATUS. -/
def judgeWords (j : Judgement) : List Word :=
  [halves (verdictCode j.verdict + 256 * boolCode j.suppressed) (j.merit.getD 0xFFFF),
   word (j.srtt.getD 0xFFFFFFFF),
   halves (j.window.length + 256 * lostIn j.window) j.penalty]

/-- The three words of a radio in STATUS. -/
def State.statusRadio (s : State) (r : Radio) : List Word :=
  bytesWord (radioStateCode (s.radio r).state) (boolCode (s.radio r).draining) (allowanceTierCode (s.meter r).tier) 0 ::
    wordPair (s.meter r).remaining

/-- The link states as bits, LAN first; which value of a bit means UP, R185 does not say (log entry 16). -/
def linkBits (l : PerPort Bool) : Nat :=
  (Config.linkBit l.lan).toNat + 2 * (Config.linkBit l.f).toNat + 4 * (Config.linkBit l.ra).toNat + 8 * (Config.linkBit l.rb).toNat

/-- Watch conformity as STATUS and SET_WATCH answer it: a byte whose code the manual does not give (log entry 16). -/
def conformityCode (b : Bool) : Nat := (Config.conformityCode b).toNat

/-- The 21 answer words of STATUS (section 12.4). -/
def State.statusWords (s : State) : List Word :=
  [bytesWord (uplinkCode s.selector.carrier) (modeCode s.selector.mode) (powerTierCode s.conditions.powerTier)
     (boolCode s.selector.stranded),
   word s.holdRemaining,
   halves s.cfg.selector.returnHold s.cfg.selector.switchMargin,
   bytesWord s.cfg.selector.switchSustain (inputBits s.conditions.filtered).toNat (conformityCode s.conditions.conforming)
     (linkBits s.links)] ++
  judgeWords (s.judge .fibre) ++ judgeWords (s.judge .radioA) ++ judgeWords (s.judge .radioB) ++
  s.statusRadio .a ++ s.statusRadio .b ++
  [halves s.flows.entries.length (loadResultCode s.store.report.result + 256 * (s.store.report.corrected % 256)),
   word s.store.report.lastCorrected]

def State.takeStatus (s : State) (t : Ticket) : State := s.reply t .status .done s.statusWords

/-! ## SNAPSHOT (R173) -/

def ProbeCounters.values (c : ProbeCounters) : List Nat := [c.sent, c.answered, c.lost, c.late, c.discarded]

def TableCounters.values (c : TableCounters) : List Nat := [c.creations, c.refusals, c.evictions, c.expiries, c.unkeyed]

def RadioFramer.discards (f : RadioFramer) : List Nat := [f.reassemblyDiscards, f.carryDiscards]

/-- The 32 counters in the order of section 12.4. -/
def State.counterValues (s : State) : List Nat :=
  s.probers.fibre.counters.values ++ s.probers.radioA.counters.values ++ s.probers.radioB.counters.values ++
  [s.policer.buckets.voice.policed, s.policer.buckets.interactive.policed, s.policer.buckets.standard.policed,
   s.policer.buckets.bulk.policed] ++
  [s.flows.shed.voice, s.flows.shed.interactive, s.flows.shed.standard, s.flows.shed.bulk] ++
  s.flows.counters.values ++ s.framers.a.discards ++ s.framers.b.discards

/-- Counters two to a word: place p in word p ÷ 2, the low half when p is even. -/
def pairWords : List Nat → List Word
  | [] => []
  | [a] => [halves a 0]
  | a :: b :: t => halves a b :: pairWords t

def Prober.clearCounters (p : Prober) : Prober := { p with counters := ⟨0, 0, 0, 0, 0⟩ }
def Bucket.clearPoliced (b : Bucket) : Bucket := { b with policed := 0 }
def RadioFramer.clearDiscards (f : RadioFramer) : RadioFramer := { f with reassemblyDiscards := 0, carryDiscards := 0 }

/-- Every snapshot counter is reset to 0. -/
def State.clearCounters (s : State) : State :=
  { s with
    probers := mapUplinks (fun _ p => Prober.clearCounters p) s.probers
    policer := { s.policer with buckets := mapClasses (fun _ b => Bucket.clearPoliced b) s.policer.buckets }
    flows := { s.flows with counters := ⟨0, 0, 0, 0, 0⟩, shed := .all 0 }
    framers := mapRadios (fun _ f => RadioFramer.clearDiscards f) s.framers }

def State.takeSnapshot (s : State) (t : Ticket) : State :=
  s.clearCounters.reply t .snapshot .done (pairWords s.counterValues)

/-! ## HOLD and the carrier (R103, R104, R106, R107) -/

def State.takeEnterHold (s : State) (t : Ticket) (limit : Word) : State :=
  let n := ranged 0 holdLimitMax limit.toNat
  let s1 := s.beginHold n.1
  s1.reply t .enterHold (doneOrClamped n.2)
    [halves (modeCode s1.selector.mode) (uplinkCode s1.selector.carrier), word s1.holdRemaining]

/-- LEAVE_HOLD is answered after the evaluation it makes (R104). -/
def State.takeLeaveHold (s : State) (t : Ticket) : State :=
  let s1 := match s.selector.mode with
    | .steering => s
    | .hold => s.endHold.evaluate false
  s1.reply t .leaveHold .done [halves (modeCode s1.selector.mode) (uplinkCode s1.selector.carrier)]

/-- The named uplink is accepted as carrier (R106). -/
def State.acceptsCarrier (s : State) (u : Uplink) : Bool :=
  s.links.get u.port &&
    (match u.radio? with
     | none => true
     | some r => (s.radio r).state.ready && !(s.radio r).draining)

def State.carrierWords (s : State) (u : Uplink) : List Word :=
  [halves (uplinkCode s.selector.carrier) (boolCode (s.usable u))]

def State.takeSetCarrier (s : State) (t : Ticket) (uplink : Word) : State :=
  s.heldOnly t .setCarrier fun s =>
    match uplinkOfCode uplink.toNat with
    | none => s.reply t .setCarrier .badParameter []
    | some u =>
      if s.acceptsCarrier u then
        let s1 := if s.isCarrier u then s else s.changeCarrier u .setCarrier
        s1.reply t .setCarrier .done (s1.carrierWords u)
      else s.reply t .setCarrier .inUse (s.carrierWords u)

def State.takeSetSelector (s : State) (t : Ticket) (p : RawSelector) : State :=
  s.heldOnly t .setSelector fun s =>
    let c := checkSelector p
    ({ s with cfg := { s.cfg with selector := c.1 } }).reply t .setSelector (doneOrClamped c.2) (selectorWords c.1)

/-! ## SET_UPLINK (R5, R52, R70, R89) -/

/-- The addressing part as checked: absent, clear, or a full record. -/
inductive AddressPart where
  | absent | clear
  | full (c : AddressRecord)
deriving DecidableEq, Repr

/-- The addressing code and the IP version are checked; a code beyond 2 is refused (log entry 17). -/
def checkAddressing (p : UplinkParams) : Option AddressPart :=
  match p.addressing.toNat with
  | 0 => some .absent
  | 1 => some .clear
  | 2 => (checkRecord p.record).map .full
  | _ => none

/-- The record, site identifier and link limit after the addressing part (R5). -/
def Settings.address (c : Settings) (u : Uplink) (a : AddressPart) (limit : Nat) (site : Word) : Settings :=
  match a with
  | .absent => c
  | .clear => { c with records := c.records.set u none }
  | .full rec =>
    match u.radio? with
    | none => { c with records := c.records.set u (some rec), siteId := site }
    | some r => { c with records := c.records.set u (some rec), linkLimits := c.linkLimits.set r limit }

/-- The uplink's own record, or a radio's link limit with it, differs between two settings. -/
def recordChanged (old new : Settings) (u : Uplink) : Bool :=
  old.records.get u != new.records.get u ||
    (match u.radio? with
     | none => false
     | some r => old.linkLimits.get r != new.linkLimits.get r)

/-- An addressing change of the uplink (R5): its record, or the site identifier of a configured one. -/
def addressChanged (old new : Settings) (u : Uplink) : Bool :=
  recordChanged old new u || (old.siteId != new.siteId && (new.records.get u).isSome)

/-- The Framer's reassembly list on an addressing change (R5). -/
def State.emptyParts (s : State) (u : Uplink) : State :=
  match u.radio? with
  | none => s
  | some r => s.setFramer r (s.framer r).emptied

/-- An addressing change at the Framer, the Judge and the Probe Engine (R5, R87, R61, R55). R5 gives no order among them: the Judge, with
its VERDICT, comes before the Probe Engine, with the answer of a burst it ends (log entry 39). -/
def State.readdress (s : State) (u : Uplink) : State :=
  let s1 := ((s.emptyParts u).judgeAddressing u).emptyOutstanding u
  s1.armProbe u s1.now

/-- The change is delivered for each uplink that it is a change of: FIBRE, then RADIO_A, then RADIO_B, an order R5 leaves open (log
entry 39). -/
def State.readdressAll (s : State) (old : Settings) : State :=
  [Uplink.fibre, .radioA, .radioB].foldl (fun t u => if addressChanged old s.cfg u then t.readdress u else t) s

/-- The judgement part is applied (R89): stored, the re-judge unless the addressing changed, the suppression test. -/
def State.applyJudge (s : State) (u : Uplink) (p : JudgeSettings) (readdressed : Bool) : State :=
  let old := s.cfg.judges.get u
  let s1 : State := { s with cfg := { s.cfg with judges := s.cfg.judges.set u p } }
  let s2 := if readdressed || sameThresholds old p then s1 else s1.reJudge u
  if old.suppress = p.suppress && old.reuse = p.reuse then s2 else s2.testSuppression u

/-- The probe part is stored (R52). -/
def State.applyProbe (s : State) (u : Uplink) (p : ProbeSettings) : State :=
  { s with cfg := { s.cfg with probes := s.cfg.probes.set u p } }

/-- The parts of a SET_UPLINK that passed its checks; `none` for an absent part. -/
structure UplinkParts where
  addressing : AddressPart
  limit      : Nat
  siteId     : Word
  probe      : Option ProbeSettings
  judge      : Option JudgeSettings
  clamped    : Bool
deriving DecidableEq, Repr

/-- The whole request is checked before anything is applied (R5). -/
def State.checkUplink (s : State) (u : Uplink) (p : UplinkParams) : Option UplinkParts :=
  match checkAddressing p with
  | none => none
  | some a =>
    let lim := match a, u.radio? with
      | .full _, some _ => checkLimit p.linkLimit
      | .full _, none => (0, false)
      | .absent, _ => (0, false)
      | .clear, _ => (0, false)
    let pr := checkProbe u (s.cfg.probes.get u) p.probe
    let hasProbe := p.probePart != 0
    if p.judgePart = 0 then
      some ⟨a, lim.1, p.siteId, if hasProbe then some pr.1 else none, none, lim.2 || (hasProbe && pr.2)⟩
    else
      match checkJudge u (s.cfg.judges.get u) p.judge with
      | none => none
      | some j => some ⟨a, lim.1, p.siteId, if hasProbe then some pr.1 else none, some j.1, lim.2 || (hasProbe && pr.2) || j.2⟩

/-- The checked parts are applied: Port Set, then the addressing change, then the probe and judgement parts (R5, R89). -/
def State.applyUplink (s : State) (u : Uplink) (p : UplinkParts) : State :=
  let cfg := s.cfg.address u p.addressing p.limit p.siteId
  let s1 := ({ s with cfg := cfg }).readdressAll s.cfg
  let s2 := match p.probe with
    | none => s1
    | some q => s1.applyProbe u q
  match p.judge with
  | none => s2
  | some q => s2.applyJudge u q (addressChanged s.cfg cfg u)

/-- The answer word of SET_UPLINK. -/
def State.uplinkWords (s : State) (u : Uplink) : List Word :=
  let j := s.judge u
  [halves (verdictCode j.verdict + 256 * boolCode j.suppressed) j.penalty]

def State.takeSetUplink (s : State) (t : Ticket) (p : UplinkParams) : State :=
  s.heldOnly t .setUplink fun s =>
    match uplinkOfCode p.uplink.toNat with
    | none => s.reply t .setUplink .badParameter []
    | some u =>
      match s.checkUplink u p with
      | none => s.reply t .setUplink .badParameter []
      | some parts =>
        let s1 := s.applyUplink u parts
        s1.reply t .setUplink (doneOrClamped parts.clamped) (s1.uplinkWords u)

/-! ## SET_CLASS, SET_RULE, PIN (R154, R114, R123) -/

def State.applyClass (s : State) (c : TrafficClass) (p : ClassRecord) : State :=
  (({ s with cfg := { s.cfg with classes := s.cfg.classes.set c p } }).capBucket c).walkTrigger .classApplied

def State.takeSetClass (s : State) (t : Ticket) (code : Word) (p : RawClass) : State :=
  s.heldOnly t .setClass fun s =>
    match classOfCode code.toNat with
    | none => s.reply t .setClass .badParameter []
    | some c =>
      match checkClass c p with
      | none => s.reply t .setClass .badParameter []
      | some q => (s.applyClass c q.1).reply t .setClass (doneOrClamped q.2) (classWords c q.1)

/-- There are 32 class rules. -/
def ruleCount : Nat := 32

def State.takeSetRule (s : State) (t : Ticket) (index : Word) (p : RawRule) : State :=
  if index.toNat < ruleCount then
    match checkRule p with
    | none => s.reply t .setRule .badParameter []
    | some q =>
      ({ s with cfg := { s.cfg with rules := s.cfg.rules.set index.toNat q.1 } }).reply t .setRule (doneOrClamped q.2)
        (ruleWords index.toNat q.1)
  else s.reply t .setRule .badParameter []

/-- The key of a PIN, refused for an IP version other than 4 or 6. -/
def checkKey (k : RawKey) : Option FlowKey :=
  match versionOfCode k.version.toNat with
  | none => none
  | some v => some ⟨v, addressOf v k.source, addressOf v k.dest, k.protocol, k.srcPort, k.dstPort⟩

/-- The uplink of a PIN: an uplink to pin to, or NONE 3 to clear. -/
def pinOfCode : Nat → Option (Option Uplink)
  | 0 => some (some .fibre)
  | 1 => some (some .radioA)
  | 2 => some (some .radioB)
  | 3 => some none
  | _ => none

def pinWords (i : Nat) (e : FlowEntry) : List Word :=
  [halves i (classCode e.trafficClass),
   bytesWord (assignmentCode e.assigned) (entryStateCode e.state) (assignmentCode e.pin) 0]

/-- The entry's pin is set and the entry placed at once (R123). -/
def State.applyPin (s : State) (t : Ticket) (i : Nat) (e : FlowEntry) (pin : Option Uplink) : State :=
  let e1 := { e with pin := pin }
  let s1 := s.replaceAt i e1
  s1.reply t .pin .done (pinWords i (e1.placed (s.place e1.trafficClass pin e1.assigned)))

def State.takePin (s : State) (t : Ticket) (k : RawKey) (uplink : Byte) : State :=
  match pinOfCode uplink.toNat, checkKey k with
  | some pin, some key =>
    match entryOfKey s.flows.entries key with
    | none => s.reply t .pin .notFound [0, 0]
    | some (i, e) => s.applyPin t i e pin
  | some _, none => s.reply t .pin .badParameter []
  | none, some _ => s.reply t .pin .badParameter []
  | none, none => s.reply t .pin .badParameter []

/-! ## READ_FLOWS (R124) -/

def State.takeReadFlows (s : State) (t : Ticket) (start max : Word) (buffer : BitVec 64) : State :=
  let n := ranged 1 tableSize max.toNat
  if (s.inFlightOf .copy).isSome then s.reply t .readFlows .busy []
  else if tableSize ≤ start.toNat then s.reply t .readFlows (doneOrClamped n.2) [word 0, word tableSize]
  else
    let s1 := s.beginTimed .copy t
    s1.setExchange { s1.exchange with copy := some ⟨start.toNat, 0, n.1, buffer, n.2⟩ }

/-! ## PROBE_BURST (R63) -/

def State.takeProbeBurst (s : State) (t : Ticket) (uplink count : Word) : State :=
  match uplinkOfCode uplink.toNat with
  | none => s.reply t .probeBurst .badParameter []
  | some u =>
    let n := ranged 1 16 count.toNat
    if (s.prober u).burst.isSome then s.reply t .probeBurst .busy []
    else if s.eligible u then
      let b : Burst := ⟨n.1, 0, some s.now, 0, 0, 0, 0, n.2⟩
      ((s.beginTimed (.burst u) t).setProber u { s.prober u with burst := some b }).burstSend u
    else s.reply t .probeBurst .notFound ((⟨n.1, 0, none, 0, 0, 0, 0, n.2⟩ : Burst).words u)

/-! ## RADIO_POWER and SET_RADIO_TIMERS (R42, R43, R46) -/

/-- A host WARM on a radio that is not draining, by its state (R42). -/
def State.warmByState (s : State) (t : Ticket) (r : Radio) : State :=
  match (s.radio r).state with
  | .off =>
    if s.limitRefuses r then s.reply t .radioPower .tierLimit (s.radioWords r false 0)
    else (s.beginTimed (.warm r) t).startWarm r .hostWarm
  | .warming =>
    if (s.inFlightOf (.warm r)).isSome then s.reply t .radioPower .busy [] else s.beginTimed (.warm r) t
  | .standby => s.reply t .radioPower .done (s.radioWords r false 0)
  | .carrying => s.reply t .radioPower .done (s.radioWords r false 0)

/-- A host WARM of a radio: a draining flag is cleared first, within the RESERVE limit (R42). -/
def State.warmRadio (s : State) (t : Ticket) (r : Radio) : State :=
  if (s.radio r).draining then
    (if s.limitRefuses r then s.reply t .radioPower .tierLimit (s.radioWords r false 0)
     else (s.clearDraining r).warmByState t r)
  else s.warmByState t r

def State.takeRadioWarm (s : State) (t : Ticket) (radio : Word) : State :=
  match radioOfCode radio.toNat with
  | none => s.reply t .radioPower .badParameter []
  | some r => s.warmRadio t r

/-- A RADIO_POWER OFF of a radio (R43). -/
def State.offRadio (s : State) (t : Ticket) (r : Radio) : State :=
  if (s.radio r).state != .off && s.isCarrier r.uplink && s.noOtherUsable r then
    s.reply t .radioPower .inUse (s.radioWords r false 0)
  else
    let s1 := if (s.radio r).state = .off then s else s.letGo r .hostOff
    let s2 := s1.endWarm r .superseded false
    s2.reply t .radioPower .done (s2.radioWords r false 0)

def State.takeRadioOff (s : State) (t : Ticket) (radio : Word) : State :=
  match radioOfCode radio.toNat with
  | none => s.reply t .radioPower .badParameter []
  | some r => s.offRadio t r

/-- A change of policy acts at once (R46). -/
def State.policyChanged (s : State) (r : Radio) (old : Policy) : State :=
  let u := s.radio r
  match old, (s.cfg.timers.get r).policy with
  | .cold, .warm => if u.state = .off then s.policyWarm r else s.setRadio r { u with coolHold := none }
  | .warm, .cold => if u.state = .standby then s.setRadio r { u with coolHold := s.coolHoldIn r .standby } else s
  | .cold, .cold => s
  | .warm, .warm => s

def State.takeSetRadioTimers (s : State) (t : Ticket) (radio : Word) (p : RawTimers) : State :=
  s.heldOnly t .setRadioTimers fun s =>
    match radioOfCode radio.toNat with
    | none => s.reply t .setRadioTimers .badParameter []
    | some r =>
      match checkTimers p with
      | none => s.reply t .setRadioTimers .badParameter []
      | some q =>
        let old := (s.cfg.timers.get r).policy
        let s1 : State := { s with cfg := { s.cfg with timers := s.cfg.timers.set r q.1 } }
        (s1.policyChanged r old).reply t .setRadioTimers (doneOrClamped q.2) (timersWords r q.1)

/-! ## The allowance requests (R150 to R152) -/

/-- The answer of the three allowance requests. -/
def State.replyMeter (s : State) (t : Ticket) (k : RequestKind) (r : Radio) (clamped : Bool) : State :=
  s.reply t k (doneOrClamped clamped) (meterWords r (s.cfg.meters.get r) (s.meter r))

/-- New settings of a meter, R no higher than the new A, and the tier anew (R150). -/
def State.applyAllowance (s : State) (r : Radio) (p : MeterSettings) : State :=
  let s1 : State := { s with cfg := { s.cfg with meters := s.cfg.meters.set r p } }
  (s1.setMeter r { s1.meter r with remaining := min (s1.meter r).remaining p.allowance }).deriveTier r .setAllowance 0

def State.takeSetAllowance (s : State) (t : Ticket) (radio : Word) (p : RawMeter) : State :=
  match radioOfCode radio.toNat with
  | none => s.reply t .setAllowance .badParameter []
  | some r =>
    match checkMeter p with
    | none => s.reply t .setAllowance .badParameter []
    | some q => (s.applyAllowance r q.1).replyMeter t .setAllowance r q.2

/-- R becomes A, used and overage 0, and the tier anew (R151). -/
def State.applyOpenPeriod (s : State) (r : Radio) : State :=
  (s.setMeter r { s.meter r with remaining := (s.cfg.meters.get r).allowance, used := 0, overage := 0 }).deriveTier r .openPeriod 0

def State.takeOpenPeriod (s : State) (t : Ticket) (radio : Word) : State :=
  match radioOfCode radio.toNat with
  | none => s.reply t .openPeriod .badParameter []
  | some r => (s.applyOpenPeriod r).replyMeter t .openPeriod r false

/-- R becomes the value, no higher than A, and the tier anew (R152). -/
def State.applyRemaining (s : State) (r : Radio) (value : Nat) : State :=
  (s.setMeter r { s.meter r with remaining := min value (s.cfg.meters.get r).allowance }).deriveTier r .setRemaining 0

/-- The value is brought to 2^40−1, then to A; either makes the answer CLAMPED (R152). -/
def State.takeSetRemaining (s : State) (t : Ticket) (radio : Word) (value : BitVec 64) : State :=
  match radioOfCode radio.toNat with
  | none => s.reply t .setRemaining .badParameter []
  | some r =>
    (s.applyRemaining r (min value.toNat allowanceMax)).replyMeter t .setRemaining r
      (decide (allowanceMax < value.toNat) || decide ((s.cfg.meters.get r).allowance < value.toNat))

/-! ## SET_LEAD, SET_WATCH, STORE (R155, R28, R180) -/

def State.takeSetLead (s : State) (t : Ticket) (p : PerTier Word) : State :=
  let c := checkLead p
  ({ s with cfg := { s.cfg with lead := c.1 } }).reply t .setLead (doneOrClamped c.2) (leadWords c.1)

/-- The subject of a WATCH_ALERT that a SET_WATCH causes (R27). -/
def watchSubject : Nat := 8

def State.takeSetWatch (s : State) (t : Ticket) (p : RawWatch) : State :=
  let c := checkWatch p
  let s1 : State := { s with cfg := { s.cfg with watch := c.1 } }
  let s2 := s1.recheckWatch watchSubject (inputBits s.conditions.filtered)
  s2.reply t .setWatch (doneOrClamped c.2)
    [bytesWord (conformityCode s2.conditions.conforming) (inputBits s2.conditions.filtered).toNat 0 0]

/-- A STORE: BUSY while one runs; the supply check, which writes nothing when it fails; else the copy is taken and the block writes begin.
The old image stands until the marker of step 2 is written (R180, R181; log entry 20). -/
def State.takeStore (s : State) (t : Ticket) : State :=
  if s.store.running.isSome then s.reply t .store .busy []
  else if s.supply then
    (s.beginTimed .store t).setStore { s.store with running := some ⟨s.storeCopy, 0, s.now⟩ }
  else s.reply t .store .supplyFault [word 0, word 0]

/-! ## CANCEL (R170) -/

/-- The cancel of an in-flight operation at its owner, and the answer to the CANCEL (R45, R67, R126, R170). -/
def State.cancelOwner (s : State) (o : TimedOwner) : State × RequestOutcome :=
  match o with
  | .burst u =>
    match (s.prober u).burst with
    | some b => (s.cancelBurst u b, .done)
    | none => (s, .tooLate)
  | .copy =>
    match s.exchange.copy with
    | some c => (s.cancelCopy c, .done)
    | none => (s, .tooLate)
  | .warm r => (s.cancelWarm r, .done)
  | .store => (s, .tooLate)

/-- The target of a CANCEL whose slot reads TAKEN. -/
def State.cancelTaken (s : State) (slot : Nat) : State × RequestOutcome :=
  match s.queuedAt slot with
  | some q => ((s.dropQueued slot).answer q.slot q.kind.toNat q.tag .cancelled [], .done)
  | none =>
    match s.tiedAt slot with
    | some f => s.cancelOwner f.owner
    | none => (s, .tooLate)

def State.takeCancel (s : State) (t : Ticket) (slot : Word) : State :=
  if boardSize ≤ slot.toNat || slot.toNat = t.slot.val then s.reply t .cancel .badParameter []
  else
    let s1 := s.readAccess
    if s1.running then
      (if s1.token slot.toNat = tokenTaken then
        let r := s1.cancelTaken slot.toNat
        r.1.reply t .cancel r.2 []
       else s1.reply t .cancel .notFound [])
    else s1

/-! ## Dispatch (R166) -/

/-- A request is handed to its owner by its kind, its parameters read from its body. -/
def State.handOver (s : State) (k : RequestKind) (t : Ticket) (b : List Word) : State :=
  match k with
  | .status => s.takeStatus t
  | .snapshot => s.takeSnapshot t
  | .enterHold => s.takeEnterHold t (bodyWord b 0)
  | .leaveHold => s.takeLeaveHold t
  | .setCarrier => s.takeSetCarrier t (bodyWord b 0)
  | .setUplink => s.takeSetUplink t (uplinkParamsOf b)
  | .setSelector => s.takeSetSelector t (selectorOf b)
  | .setClass => s.takeSetClass t (bodyWord b 0) (classOf b)
  | .setRule => s.takeSetRule t (bodyWord b 0) (ruleOf b)
  | .pin => s.takePin t (keyIn b) (bodyByte b 0 2)
  | .readFlows => s.takeReadFlows t (bodyWord b 0) (bodyWord b 1) (bodyPair b 2)
  | .probeBurst => s.takeProbeBurst t (bodyWord b 0) (bodyWord b 1)
  | .radioPower =>
    match (bodyWord b 1).toNat with
    | 0 => s.takeRadioWarm t (bodyWord b 0)
    | 1 => s.takeRadioOff t (bodyWord b 0)
    | _ => s.reply t .radioPower .badParameter []
  | .setRadioTimers => s.takeSetRadioTimers t (bodyWord b 0) (timersOf b)
  | .setAllowance => s.takeSetAllowance t (bodyWord b 0) (meterOf b)
  | .openPeriod => s.takeOpenPeriod t (bodyWord b 0)
  | .setRemaining => s.takeSetRemaining t (bodyWord b 0) (bodyPair b 1)
  | .setLead => s.takeSetLead t (leadOf b)
  | .setWatch => s.takeSetWatch t (watchOf b)
  | .store => s.takeStore t
  | .cancel => s.takeCancel t (bodyWord b 0)

/-- A request is dispatched: a kind outside the catalogue is answered UNKNOWN_KIND (R166). -/
def State.dispatchRequest (s : State) (q : QueuedRequest) : State :=
  match requestOfCode q.kind.toNat with
  | none => s.answer q.slot q.kind.toNat q.tag .unknownKind []
  | some k => s.handOver k ⟨q.slot, q.tag⟩ q.body

/-- The oldest request of the queue is removed and dispatched. -/
def State.dispatchOldest (s : State) : State :=
  match s.exchange.queue with
  | [] => s
  | q :: rest => (s.setExchange { s.exchange with queue := rest }).dispatchRequest q

end Sys2Proof.Machine
end

