-- ==== Sys2Proof/Machine/StartCommands.lean ====
section
/-! DEFINITION. The meanings of the start-up, port and input commands (chapters 1, 2 and 11). -/

namespace Sys2Proof.Machine

/-- POWER_ON (R177). -/
def execPowerOn (m : Moment) (s : State) : Host.Outcome State Fault Refusal := s.go m State.powerUp

/-- LOAD_BLOCK_READ (R177, R179). -/
def execLoadBlockRead (m : Moment) (b : BlockRead) (s : State) : Host.Outcome State Fault Refusal :=
  s.go m (fun t => t.loadBlock b)

/-- PASSTHROUGH_FRAME (R18): a frame at a port. -/
def execPassthroughFrame (m : Moment) (o : Port) (frame : List Byte) (s : State) : Host.Outcome State Fault Refusal :=
  s.go m (fun t => t.frameAt o frame)

/-- LINK_UP (R1). -/
def execLinkUp (m : Moment) (o : Port) (s : State) : Host.Outcome State Fault Refusal := s.go m (fun t => t.linkChange o true)

/-- LINK_DOWN (R1). -/
def execLinkDown (m : Moment) (o : Port) (s : State) : Host.Outcome State Fault Refusal := s.go m (fun t => t.linkChange o false)

/-- UPSTREAM_FRAME (R6): a frame at the LAN port. -/
def execUpstreamFrame (m : Moment) (frame : List Byte) (s : State) : Host.Outcome State Fault Refusal :=
  s.go m (fun t => t.frameAt .lan frame)

/-- RADIO_FRAME_RECEIVED (R12): a frame at RA or RB. -/
def execRadioFrameReceived (m : Moment) (r : Radio) (frame : List Byte) (s : State) : Host.Outcome State Fault Refusal :=
  s.go m (fun t => t.frameAt r.port frame)

/-- FIBRE_FRAME_RECEIVED (R17): a frame at F. -/
def execFibreFrameReceived (m : Moment) (frame : List Byte) (s : State) : Host.Outcome State Fault Refusal :=
  s.go m (fun t => t.frameAt .f frame)

/-- PART_EXPIRY (R16). -/
def execPartExpiry (m : Moment) (r : Radio) (sequence : Word) (part : SplitPart) (s : State) :
    Host.Outcome State Fault Refusal :=
  s.go m (whenSteering fun t => t.setFramer r ((t.framer r).expirePart t.now sequence part))

/-- RAW_LEVEL_CHANGE (R20). -/
def execRawLevelChange (m : Moment) (i : Input) (level : Bool) (s : State) : Host.Outcome State Fault Refusal :=
  s.go m (fun t => t.rawChange i level)

/-- PENDING_CHANGE_DUE (R20). -/
def execPendingChangeDue (m : Moment) (i : Input) (s : State) : Host.Outcome State Fault Refusal :=
  s.go m (atRunout (fun t => t.conditions.changes.get i) (fun t => t.changeDue i))

/-- POWER_LOSS (R181). -/
def execPowerLoss (m : Moment) (s : State) : Host.Outcome State Fault Refusal := s.go m State.powerDown

end Sys2Proof.Machine
end

