-- ==== Sys2Proof/Machine/TimerCommands.lean ====
section
/-! DEFINITION. The meanings of the timer commands and of the block steps that take time (chapters 3 to 9). -/

namespace Sys2Proof.Machine

/-- WARM_MIN_RUNOUT (R38). -/
def execWarmMinRunout (m : Moment) (r : Radio) (s : State) : Host.Outcome State Fault Refusal :=
  s.go m (atRunout (fun t => (t.radio r).warmMin) (fun t => t.warmMinOut r (t.readyLevel r)))

/-- ATTACH_LIMIT_RUNOUT (R39). -/
def execAttachLimitRunout (m : Moment) (r : Radio) (s : State) : Host.Outcome State Fault Refusal :=
  s.go m (atRunout (fun t => if (t.radio r).state = .warming then (t.radio r).attachLimit else none) (fun t => t.attachFailed r))

/-- RETRY_WAIT_RUNOUT (R41). -/
def execRetryWaitRunout (m : Moment) (r : Radio) (s : State) : Host.Outcome State Fault Refusal :=
  s.go m (atRunout (fun t => (t.radio r).retryWait) (fun t => t.retryWaitOut r))

/-- COOL_HOLD_RUNOUT (R41). -/
def execCoolHoldRunout (m : Moment) (r : Radio) (s : State) : Host.Outcome State Fault Refusal :=
  s.go m (atRunout (fun t => (t.radio r).coolHold) (fun t => t.coolHoldOut r))

/-- PROBE_TIMER_RUNOUT (R53). -/
def execProbeTimerRunout (m : Moment) (u : Uplink) (s : State) : Host.Outcome State Fault Refusal :=
  s.go m (atRunout (fun t => (t.prober u).timer) (fun t => t.probeRunout u))

/-- BURST_PROBE_DUE (R64). -/
def execBurstProbeDue (m : Moment) (u : Uplink) (s : State) : Host.Outcome State Fault Refusal :=
  s.go m (atRunout (fun t => (t.prober u).burst.bind (·.nextDue)) (fun t => t.burstSend u))

/-- PROBE_EXPIRY (R57): the due time is in the microsecond count. -/
def execProbeExpiry (m : Moment) (u : Uplink) (sequence : BitVec 16) (s : State) : Host.Outcome State Fault Refusal :=
  s.go m (whenSteering fun t => t.expireProbe u sequence)

/-- DECAY_TIMER_RUNOUT (R83). -/
def execDecayTimerRunout (m : Moment) (u : Uplink) (s : State) : Host.Outcome State Fault Refusal :=
  s.go m (atRunout (fun t => (t.judge u).decayTimer) (fun t => t.decayPenalty u))

/-- EVALUATION_TIMER_RUNOUT (R93). -/
def execEvaluationTimerRunout (m : Moment) (s : State) : Host.Outcome State Fault Refusal :=
  s.go m (atRunout (fun t => t.selector.evaluation) State.timerEvaluation)

/-- HOLD_LIMIT_RUNOUT (R104). -/
def execHoldLimitRunout (m : Moment) (s : State) : Host.Outcome State Fault Refusal :=
  s.go m (atRunout (fun t => t.selector.holdTimer) State.holdExpired)

/-- AGEING_TIMER_RUNOUT (R120). -/
def execAgeingTimerRunout (m : Moment) (s : State) : Host.Outcome State Fault Refusal :=
  s.go m (atRunout (fun t => t.flows.ageing) State.age)

/-- WALK_VISIT (R138). -/
def execWalkVisit (m : Moment) (s : State) : Host.Outcome State Fault Refusal := s.go m (whenSteering State.visit)

/-- FLOW_COPY_STEP (R125). -/
def execFlowCopyStep (m : Moment) (s : State) : Host.Outcome State Fault Refusal := s.go m (whenRunning State.copyStep)

/-- REFRESH_TIMER_RUNOUT (R159). -/
def execRefreshTimerRunout (m : Moment) (s : State) : Host.Outcome State Fault Refusal :=
  s.go m (atRunout (fun t => t.policer.refresh) State.refresh)

end Sys2Proof.Machine
end

