-- ==== Sys2Proof/Machine/ExchangeCommands.lean ====
section
/-! DEFINITION. The meanings of the commands at the Exchange Unit beside its requests (chapter 10). A write of CONTROL has the effects of
all its fields (R161), so the five CONTROL rows carry the written word and share one operation. A register row is a write at its register's offset of the
window (R183), ignored while the part does not steer (R161). -/

namespace Sys2Proof.Machine

/-- SWEEP_TIMER_RUNOUT (R165). -/
def execSweepTimerRunout (m : Moment) (s : State) : Host.Outcome State Fault Refusal :=
  s.go m (atRunout (fun t => if t.running then t.exchange.sweepTimer else none) State.sweepTimerOut)

/-- SWEEP_SLOT (R165). -/
def execSweepSlot (m : Moment) (s : State) : Host.Outcome State Fault Refusal := s.go m (whenRunning State.sweepOne)

/-- DISPATCH (R166). -/
def execDispatch (m : Moment) (s : State) : Host.Outcome State Fault Refusal := s.go m (whenRunning State.dispatchOldest)

/-- EXCHANGE_START (R163): a CONTROL write. -/
def execExchangeStart (m : Moment) (w : Word) (s : State) : Host.Outcome State Fault Refusal :=
  s.go m (whenSteering fun t => t.writeWindow (registerOffset .control) w)

/-- EXCHANGE_STOP (R174): a CONTROL write. -/
def execExchangeStop (m : Moment) (w : Word) (s : State) : Host.Outcome State Fault Refusal :=
  s.go m (whenSteering fun t => t.writeWindow (registerOffset .control) w)

/-- DEVICE_RESET (R175): a CONTROL write. -/
def execDeviceReset (m : Moment) (w : Word) (s : State) : Host.Outcome State Fault Refusal :=
  s.go m (whenSteering fun t => t.writeWindow (registerOffset .control) w)

/-- SWEEP_INTERVAL_SET (R165): a CONTROL write. -/
def execSweepIntervalSet (m : Moment) (w : Word) (s : State) : Host.Outcome State Fault Refusal :=
  s.go m (whenSteering fun t => t.writeWindow (registerOffset .control) w)

/-- INTERRUPT_ENABLE_SET (R162): a CONTROL write. -/
def execInterruptEnableSet (m : Moment) (w : Word) (s : State) : Host.Outcome State Fault Refusal :=
  s.go m (whenSteering fun t => t.writeWindow (registerOffset .control) w)

/-- CAUSE_CLEAR (R162). -/
def execCauseClear (m : Moment) (bits : Word) (s : State) : Host.Outcome State Fault Refusal :=
  s.go m (whenSteering fun t => t.writeWindow (registerOffset .cause) bits)

/-- NUDGE (R165): any value. -/
def execNudge (m : Moment) (value : Word) (s : State) : Host.Outcome State Fault Refusal :=
  s.go m (whenSteering fun t => t.writeWindow (registerOffset .nudge) value)

/-- REGISTER_WRITE (R161). -/
def execRegisterWrite (m : Moment) (half : AreaHalf) (value : Word) (s : State) : Host.Outcome State Fault Refusal :=
  s.go m (whenSteering fun t => t.writeWindow (registerOffset (areaRegister half)) value)

/-- PCIE_LINK_RESET (R174). -/
def execPcieLinkReset (m : Moment) (s : State) : Host.Outcome State Fault Refusal := s.go m State.linkReset

end Sys2Proof.Machine
end

