-- ==== Sys2Proof/Machine/RequestCommands.lean ====
section
/-! DEFINITION. The meanings of the request commands: a request of that kind, with its slot and tag, is handed to its owner at dispatch
(R166). DISPATCH calls the same operations on the request at the head of the queue. -/

namespace Sys2Proof.Machine

/-- STATUS (R172). -/
def execStatus (m : Moment) (t : Ticket) (s : State) : Host.Outcome State Fault Refusal :=
  s.go m (whenRunning fun u => u.takeStatus t)

/-- SNAPSHOT (R173). -/
def execSnapshot (m : Moment) (t : Ticket) (s : State) : Host.Outcome State Fault Refusal :=
  s.go m (whenRunning fun u => u.takeSnapshot t)

/-- ENTER_HOLD (R103). -/
def execEnterHold (m : Moment) (t : Ticket) (limit : Word) (s : State) : Host.Outcome State Fault Refusal :=
  s.go m (whenRunning fun u => u.takeEnterHold t limit)

/-- LEAVE_HOLD (R104). -/
def execLeaveHold (m : Moment) (t : Ticket) (s : State) : Host.Outcome State Fault Refusal :=
  s.go m (whenRunning fun u => u.takeLeaveHold t)

/-- SET_CARRIER (R106). -/
def execSetCarrier (m : Moment) (t : Ticket) (uplink : Word) (s : State) : Host.Outcome State Fault Refusal :=
  s.go m (whenRunning fun u => u.takeSetCarrier t uplink)

/-- SET_UPLINK (R5, R52, R70, R87 to R89). -/
def execSetUplink (m : Moment) (t : Ticket) (p : UplinkParams) (s : State) : Host.Outcome State Fault Refusal :=
  s.go m (whenRunning fun u => u.takeSetUplink t p)

/-- SET_SELECTOR (R107). -/
def execSetSelector (m : Moment) (t : Ticket) (p : RawSelector) (s : State) : Host.Outcome State Fault Refusal :=
  s.go m (whenRunning fun u => u.takeSetSelector t p)

/-- SET_CLASS (R154). -/
def execSetClass (m : Moment) (t : Ticket) (c : Word) (p : RawClass) (s : State) : Host.Outcome State Fault Refusal :=
  s.go m (whenRunning fun u => u.takeSetClass t c p)

/-- SET_RULE (R114). -/
def execSetRule (m : Moment) (t : Ticket) (index : Word) (p : RawRule) (s : State) : Host.Outcome State Fault Refusal :=
  s.go m (whenRunning fun u => u.takeSetRule t index p)

/-- PIN (R123). -/
def execPin (m : Moment) (t : Ticket) (key : RawKey) (uplink : Byte) (s : State) : Host.Outcome State Fault Refusal :=
  s.go m (whenRunning fun u => u.takePin t key uplink)

/-- READ_FLOWS (R124). -/
def execReadFlows (m : Moment) (t : Ticket) (start max : Word) (buffer : BitVec 64) (s : State) : Host.Outcome State Fault Refusal :=
  s.go m (whenRunning fun u => u.takeReadFlows t start max buffer)

/-- PROBE_BURST (R63). -/
def execProbeBurst (m : Moment) (t : Ticket) (uplink count : Word) (s : State) : Host.Outcome State Fault Refusal :=
  s.go m (whenRunning fun u => u.takeProbeBurst t uplink count)

/-- RADIO_POWER_WARM (R42). -/
def execRadioPowerWarm (m : Moment) (t : Ticket) (radio : Word) (s : State) : Host.Outcome State Fault Refusal :=
  s.go m (whenRunning fun u => u.takeRadioWarm t radio)

/-- RADIO_POWER_OFF (R43). -/
def execRadioPowerOff (m : Moment) (t : Ticket) (radio : Word) (s : State) : Host.Outcome State Fault Refusal :=
  s.go m (whenRunning fun u => u.takeRadioOff t radio)

/-- SET_RADIO_TIMERS (R46). -/
def execSetRadioTimers (m : Moment) (t : Ticket) (radio : Word) (p : RawTimers) (s : State) : Host.Outcome State Fault Refusal :=
  s.go m (whenRunning fun u => u.takeSetRadioTimers t radio p)

/-- SET_ALLOWANCE (R150). -/
def execSetAllowance (m : Moment) (t : Ticket) (radio : Word) (p : RawMeter) (s : State) : Host.Outcome State Fault Refusal :=
  s.go m (whenRunning fun u => u.takeSetAllowance t radio p)

/-- OPEN_PERIOD (R151). -/
def execOpenPeriod (m : Moment) (t : Ticket) (radio : Word) (s : State) : Host.Outcome State Fault Refusal :=
  s.go m (whenRunning fun u => u.takeOpenPeriod t radio)

/-- SET_REMAINING (R152). -/
def execSetRemaining (m : Moment) (t : Ticket) (radio : Word) (value : BitVec 64) (s : State) : Host.Outcome State Fault Refusal :=
  s.go m (whenRunning fun u => u.takeSetRemaining t radio value)

/-- SET_LEAD (R155). -/
def execSetLead (m : Moment) (t : Ticket) (p : PerTier Word) (s : State) : Host.Outcome State Fault Refusal :=
  s.go m (whenRunning fun u => u.takeSetLead t p)

/-- SET_WATCH (R28). -/
def execSetWatch (m : Moment) (t : Ticket) (p : RawWatch) (s : State) : Host.Outcome State Fault Refusal :=
  s.go m (whenRunning fun u => u.takeSetWatch t p)

/-- STORE (R180). -/
def execStore (m : Moment) (t : Ticket) (s : State) : Host.Outcome State Fault Refusal :=
  s.go m (whenRunning fun u => u.takeStore t)

/-- CANCEL (R170). -/
def execCancel (m : Moment) (t : Ticket) (slot : Word) (s : State) : Host.Outcome State Fault Refusal :=
  s.go m (whenRunning fun u => u.takeCancel t slot)

/-- STORE_BLOCK_WRITTEN (R180). -/
def execStoreBlockWritten (m : Moment) (s : State) : Host.Outcome State Fault Refusal := s.go m (whenSteering State.storeBlock)

/-- SUPPLY_FAULT (R181). -/
def execSupplyFault (m : Moment) (s : State) : Host.Outcome State Fault Refusal := s.go m (whenSteering State.storeFault)

end Sys2Proof.Machine
end

