-- ==== Sys2Proof/Machine/Dispatch.lean ====
section
/-! DEFINITION. One arm for each command. -/

namespace Sys2Proof.Machine

def exec (i : Instr) (s : State) : Host.Outcome State Fault Refusal :=
  match i with
  | .powerOn m => Sys2Proof.Machine.execPowerOn m s
  | .loadBlockRead m read => Sys2Proof.Machine.execLoadBlockRead m read s
  | .passthroughFrame m port frame => Sys2Proof.Machine.execPassthroughFrame m port frame s
  | .linkUp m port => Sys2Proof.Machine.execLinkUp m port s
  | .linkDown m port => Sys2Proof.Machine.execLinkDown m port s
  | .upstreamFrame m frame => Sys2Proof.Machine.execUpstreamFrame m frame s
  | .radioFrameReceived m radio frame => Sys2Proof.Machine.execRadioFrameReceived m radio frame s
  | .fibreFrameReceived m frame => Sys2Proof.Machine.execFibreFrameReceived m frame s
  | .partExpiry m radio sequence part => Sys2Proof.Machine.execPartExpiry m radio sequence part s
  | .rawLevelChange m input level => Sys2Proof.Machine.execRawLevelChange m input level s
  | .pendingChangeDue m input => Sys2Proof.Machine.execPendingChangeDue m input s
  | .warmMinRunout m radio => Sys2Proof.Machine.execWarmMinRunout m radio s
  | .attachLimitRunout m radio => Sys2Proof.Machine.execAttachLimitRunout m radio s
  | .retryWaitRunout m radio => Sys2Proof.Machine.execRetryWaitRunout m radio s
  | .coolHoldRunout m radio => Sys2Proof.Machine.execCoolHoldRunout m radio s
  | .probeTimerRunout m uplink => Sys2Proof.Machine.execProbeTimerRunout m uplink s
  | .burstProbeDue m uplink => Sys2Proof.Machine.execBurstProbeDue m uplink s
  | .probeExpiry m uplink sequence => Sys2Proof.Machine.execProbeExpiry m uplink sequence s
  | .decayTimerRunout m uplink => Sys2Proof.Machine.execDecayTimerRunout m uplink s
  | .evaluationTimerRunout m => Sys2Proof.Machine.execEvaluationTimerRunout m s
  | .holdLimitRunout m => Sys2Proof.Machine.execHoldLimitRunout m s
  | .ageingTimerRunout m => Sys2Proof.Machine.execAgeingTimerRunout m s
  | .walkVisit m => Sys2Proof.Machine.execWalkVisit m s
  | .flowCopyStep m => Sys2Proof.Machine.execFlowCopyStep m s
  | .refreshTimerRunout m => Sys2Proof.Machine.execRefreshTimerRunout m s
  | .sweepTimerRunout m => Sys2Proof.Machine.execSweepTimerRunout m s
  | .sweepSlot m => Sys2Proof.Machine.execSweepSlot m s
  | .dispatch m => Sys2Proof.Machine.execDispatch m s
  | .exchangeStart m control => Sys2Proof.Machine.execExchangeStart m control s
  | .exchangeStop m control => Sys2Proof.Machine.execExchangeStop m control s
  | .deviceReset m control => Sys2Proof.Machine.execDeviceReset m control s
  | .sweepIntervalSet m control => Sys2Proof.Machine.execSweepIntervalSet m control s
  | .interruptEnableSet m control => Sys2Proof.Machine.execInterruptEnableSet m control s
  | .causeClear m bits => Sys2Proof.Machine.execCauseClear m bits s
  | .nudge m value => Sys2Proof.Machine.execNudge m value s
  | .registerWrite m half value => Sys2Proof.Machine.execRegisterWrite m half value s
  | .pcieLinkReset m => Sys2Proof.Machine.execPcieLinkReset m s
  | .status m t => Sys2Proof.Machine.execStatus m t s
  | .snapshot m t => Sys2Proof.Machine.execSnapshot m t s
  | .enterHold m t limit => Sys2Proof.Machine.execEnterHold m t limit s
  | .leaveHold m t => Sys2Proof.Machine.execLeaveHold m t s
  | .setCarrier m t uplink => Sys2Proof.Machine.execSetCarrier m t uplink s
  | .setUplink m t p => Sys2Proof.Machine.execSetUplink m t p s
  | .setSelector m t p => Sys2Proof.Machine.execSetSelector m t p s
  | .setClass m t trafficClass p => Sys2Proof.Machine.execSetClass m t trafficClass p s
  | .setRule m t index p => Sys2Proof.Machine.execSetRule m t index p s
  | .pin m t key uplink => Sys2Proof.Machine.execPin m t key uplink s
  | .readFlows m t start max buffer => Sys2Proof.Machine.execReadFlows m t start max buffer s
  | .probeBurst m t uplink count => Sys2Proof.Machine.execProbeBurst m t uplink count s
  | .radioPowerWarm m t radio => Sys2Proof.Machine.execRadioPowerWarm m t radio s
  | .radioPowerOff m t radio => Sys2Proof.Machine.execRadioPowerOff m t radio s
  | .setRadioTimers m t radio p => Sys2Proof.Machine.execSetRadioTimers m t radio p s
  | .setAllowance m t radio p => Sys2Proof.Machine.execSetAllowance m t radio p s
  | .openPeriod m t radio => Sys2Proof.Machine.execOpenPeriod m t radio s
  | .setRemaining m t radio value => Sys2Proof.Machine.execSetRemaining m t radio value s
  | .setLead m t p => Sys2Proof.Machine.execSetLead m t p s
  | .setWatch m t p => Sys2Proof.Machine.execSetWatch m t p s
  | .store m t => Sys2Proof.Machine.execStore m t s
  | .storeBlockWritten m => Sys2Proof.Machine.execStoreBlockWritten m s
  | .supplyFault m => Sys2Proof.Machine.execSupplyFault m s
  | .cancel m t slot => Sys2Proof.Machine.execCancel m t slot s
  | .powerLoss m => Sys2Proof.Machine.execPowerLoss m s

end Sys2Proof.Machine
end

