-- ==== Sys2Proof/Safety.lean ====
section
/-! DEFINITION. What statements speak of: the parts of State that an operation leaves alone, and the invariants of the part. -/

namespace Sys2Proof.Machine

/-! ## What an operation leaves alone -/

/-- Everything but the exchange: registers, exchange state, host memory and the access of the command may differ. Notices,
answers and the device state word change no more than that (R164, R167, R171). -/
structure OnlyExchange (s t : State) : Prop where
  phase      : t.phase = s.phase
  clock      : t.clock = s.clock
  links      : t.links = s.links
  cfg        : t.cfg = s.cfg
  framers    : t.framers = s.framers
  conditions : t.conditions = s.conditions
  radios     : t.radios = s.radios
  probers    : t.probers = s.probers
  judges     : t.judges = s.judges
  selector   : t.selector = s.selector
  flows      : t.flows = s.flows
  walk       : t.walk = s.walk
  meters     : t.meters = s.meters
  policer    : t.policer = s.policer
  store      : t.store = s.store
  wire       : t.wire = s.wire
  supply     : t.supply = s.supply
  deliveries : t.deliveries = s.deliveries
  pending    : t.pending = s.pending

/-- What the deliveries at the Selector and the Sequencer never change: time, links, settings, framers, conditions, the flow table,
meters, policer, the Settings Store, the wires, and the queue of commands. -/
structure Steady (s t : State) : Prop where
  phase      : t.phase = s.phase
  clock      : t.clock = s.clock
  links      : t.links = s.links
  cfg        : t.cfg = s.cfg
  framers    : t.framers = s.framers
  conditions : t.conditions = s.conditions
  flows      : t.flows = s.flows
  meters     : t.meters = s.meters
  policer    : t.policer = s.policer
  store      : t.store = s.store
  wire       : t.wire = s.wire
  supply     : t.supply = s.supply
  pending    : t.pending = s.pending

/-! ## Requests and their answers -/

/-- A request of ticket k can be answered in the command of moment m: the part steers, the exchange runs, no access of the command
fails, the slot's token reads TAKEN, host memory is in its canonical form, and no delivery waits (R166, R167). -/
structure Posed (s : State) (m : Moment) (k : Ticket) : Prop where
  steering : s.phase = .steering
  running  : s.running = true
  failing  : m.failing = none
  taken    : (s.begin m).token k.slot.val = tokenTaken
  memory   : memoryWf s.memory = true
  settled  : s.deliveries = []

/-- The address of the slot of a ticket. -/
def State.slotAddress (s : State) (k : Ticket) : Nat := s.area (slotOffset k.slot.val)

/-- The slot of ticket k shows the answer: the token ANSWERED, the outcome, the answer time, and the body words of an outcome that has
any; and ANSWER is set in CAUSE (R167, R184, R185). -/
structure Answered (t : State) (k : Ticket) (o : RequestOutcome) (body : List Word) : Prop where
  token   : t.token k.slot.val = tokenAnswered
  outcome : readByte t.memory (t.slotAddress k + 2) = BitVec.ofNat 8 (outcomeCode o)
  time    : t.memoryWord (t.slotAddress k + 8) = t.now
  words   : o.writesBody = true → ∀ (i : Nat) (h : i < body.length), t.memoryWord (t.slotAddress k + 16 + 4 * i) = body[i]
  cause   : t.regs.cause.getLsbD 0 = true

/-- t is u with the answer written into the slot of ticket k and ANSWER set, and nothing else: every byte of the slot that the answer
does not hold, and every byte outside the slot, reads as in u. -/
structure AnsweredFrom (u t : State) (k : Ticket) (o : RequestOutcome) (body : List Word) : Prop where
  answered : Answered t k o body
  rest     : t = { u with memory := t.memory, regs := u.regs.setCause causeAnswer }
  kept     : ∀ j, j < 128 → j ≠ 0 → j ≠ 2 → (j < 8 ∨ 12 ≤ j) → (j < 16 ∨ o.writesBody = false ∨ 16 + 4 * body.length ≤ j) →
    readByte t.memory (u.slotAddress k + j) = readByte u.memory (u.slotAddress k + j)
  other    : ∀ a, ¬ among (u.slotAddress k) 128 a → readByte t.memory a = readByte u.memory a

/-- The bytes of the exchange area (R184). -/
def areaSize : Nat := 0x2100

/-- The bytes of the area that notices and the device state word are written to: the state word and the two counts, and the log
(R163, R171, R184). -/
def noticePlace (base a : Nat) : Prop := among base 8 a ∨ among (base + 0x1100) 0x1000 a

/-- What notices and the device state word change, and no more, while no access fails: the counts, the cause bits they set, and their own
bytes of host memory. -/
structure NoticesOnly (s t : State) : Prop where
  control  : t.regs.control = s.regs.control
  areaLow  : t.regs.areaLow = s.regs.areaLow
  areaHigh : t.regs.areaHigh = s.regs.areaHigh
  cause    : ∀ i, s.regs.cause.getLsbD i = true → t.regs.cause.getLsbD i = true
  exchange : t.exchange = { s.exchange with writeCount := t.exchange.writeCount, lostCount := t.exchange.lostCount }
  bytes    : ∀ a, ¬ noticePlace s.regs.areaBase a → readByte t.memory a = readByte s.memory a

/-- No radio is draining. -/
def State.undrained (s : State) : Prop := ∀ r, (s.radio r).draining = false

/-- What the deliveries of a command change in the Prober, the Judge, the Selector and the Sequencer while no radio drains, and no more:
a usable decision that ends, the carrier with what goes with it, an OFF radio that an auto-warm warms, and which ready state a ready radio is in. -/
structure Modest (s t : State) : Prop where
  probers  : t.probers = s.probers
  judges   : ∀ u, t.judge u = { s.judge u with usable := (t.judge u).usable }
  fibre    : t.judges.fibre = s.judges.fibre
  usable   : ∀ u, t.usable u = true → s.usable u = true
  selector : t.selector = { s.selector with
    carrier := t.selector.carrier, sustain := t.selector.sustain, stranded := t.selector.stranded, fibreSince := t.selector.fibreSince }
  drains   : t.undrained
  warming  : ∀ r, (s.radio r).state = .warming → t.radio r = s.radio r
  ready    : ∀ r, (s.radio r).state.ready = true → (t.radio r).state.ready = true ∧
    t.radio r = { s.radio r with state := (t.radio r).state, coolHold := (t.radio r).coolHold }
  off      : ∀ r, (s.radio r).state = .off → t.radio r = s.radio r ∨ (t.radio r).state = .warming ∧ (s.radio r).retryWait = none

/-- The part as an access of it that fails leaves it: RUN is cleared, FAULT is set, and the exchange stops, with nothing queued, swept
or copied and the request of a copy no longer in flight (R164, R174). -/
def State.failed (u : State) : State :=
  { u with
    access := none
    regs := { u.regs with control := u.regs.control &&& ~~~1, cause := u.regs.cause ||| 8 }
    exchange := { u.exchange with
      queue := [], inFlight := u.exchange.inFlight.filter (fun f => f.owner != .copy), sweepTimer := none, sweepAt := none
      sweepPending := false, copy := none } }

/-! ## Notices in the log -/

/-- In the command of moment m the exchange runs, no access fails, host memory is in its canonical form and no delivery waits. -/
structure Undisturbed (s : State) (m : Moment) : Prop where
  running : s.running = true
  failing : m.failing = none
  memory  : memoryWf s.memory = true
  settled : s.deliveries = []

/-- Record `index`, modulo 128, of the notice log shows notice n with the time `now` (R171, R184). -/
def State.noted (t : State) (index : Nat) (n : Notice) (now : Word) : Prop :=
  readBytes t.memory (t.area (noticeOffset (index % 128))) 28 = n.bytes now

/-- t is u with the one notice n handed to the Exchange Unit, and nothing else: recorded while fewer than 128 are unread, else counted
lost (R171). -/
structure Recorded (u t : State) (n : Notice) : Prop where
  rest     : t = { u with memory := t.memory, regs := t.regs, exchange := t.exchange }
  bytes    : ∀ a, ¬ noticePlace u.regs.areaBase a → readByte t.memory a = readByte u.memory a
  recorded : u.unread < 128 → t.noted u.exchange.writeCount.toNat n u.now ∧
    readBytes t.memory (t.area 4) 2 = leBytes 2 (u.exchange.writeCount + 1).toNat ∧
    t.exchange = { u.exchange with writeCount := u.exchange.writeCount + 1 } ∧ t.regs = { u.regs with cause := u.regs.cause ||| 2 }
  lost     : 128 ≤ u.unread → t.exchange = { u.exchange with lostCount := min 65535 (u.exchange.lostCount + 1) } ∧
    t.regs = { u.regs with cause := u.regs.cause ||| 4 }

/-! ## What reaches a radio and an uplink -/

/-- A host WARM of radio r is pending as request f, still tied to its slot, and the slot reads TAKEN in the command of moment m. -/
structure Awaited (s : State) (m : Moment) (r : Radio) (f : InFlight) : Prop where
  found : s.inFlightOf (.warm r) = some f
  tied  : f.tied = true
  taken : (s.begin m).token f.slot.val = tokenTaken

/-- Uplink u was put to FAILED directly, or its failure renewed (R75, R78, R79, R82), from s to t: not usable, everything of its window
emptied, and the flap penalty added when the verdict was GOOD or POOR. -/
structure FailedUplink (s t : State) (u : Uplink) : Prop where
  verdict    : (t.judge u).verdict = .failed
  usable     : (t.judge u).usable = false
  emptied    : (t.judge u).window = [] ∧ (t.judge u).srtt = none ∧ (t.judge u).merit = none ∧
    (t.judge u).runAnswered = 0 ∧ (t.judge u).runLost = 0
  penalty    : (t.judge u).penalty = if (s.judge u).verdict = .good ∨ (s.judge u).verdict = .poor
    then min 16000 ((s.judge u).penalty + 1000) else (s.judge u).penalty
  suppressed : (t.judge u).suppressed = ((s.judge u).suppressed ||
    decide (((s.judge u).verdict = .good ∨ (s.judge u).verdict = .poor) ∧ (s.cfg.judges.get u).suppress ≤ (t.judge u).penalty))
  others     : ∀ v, v ≠ u → t.judge v = { s.judge v with usable := (t.judge v).usable }

/-- WARMING radio r became ready (R33, R38, R80), from s to t with `b` the state at the moment of the command: its timers stop,
cool_hold runs in STANDBY under COLD policy alone, its probe timer is due at once, and its judgement is void but for the penalty,
its timer and the suppressed flag. -/
structure Readied (s b t : State) (r : Radio) : Prop where
  ready  : (t.radio r).state.ready = true
  radio  : t.radio r = { s.radio r with
    state := (t.radio r).state, warmMin := none, attachLimit := none, coolHold := (t.radio r).coolHold }
  cool   : (t.radio r).coolHold = if (t.radio r).state = .standby ∧ (s.cfg.timers.get r).policy = .cold
    then some (b.after ((s.cfg.timers.get r).coolHold * 1000)) else none
  prober : t.prober r.uplink = { s.prober r.uplink with timer := some b.now }
  judge  : t.judge r.uplink = { s.judge r.uplink with
    window := [], srtt := none, runAnswered := 0, runLost := 0, merit := none, verdict := .unknown, usable := false }
  others : ∀ v, v ≠ r.uplink → t.prober v = s.prober v ∧ t.judge v = { s.judge v with usable := (t.judge v).usable }
  fibre  : t.judges.fibre = s.judges.fibre

/-- The burst of uplink u ended with the record x (R65, R66), from s to t with `b` the state at the moment of the command: the burst record
is idle, its request is no longer in flight, and the slot that still waits for it shows DONE, or CLAMPED where the count was brought to
range, with the words of section 12.4. -/
structure BurstEnded (s b t : State) (u : Uplink) (x : Burst) : Prop where
  idle     : (t.prober u).burst = none
  gone     : t.inFlightOf (.burst u) = none
  answered : ∀ k : Ticket, s.inFlightOf (.burst u) = some ⟨.burst u, k.slot, k.tag, true⟩ → s.running = true → b.access = none →
    memoryWf s.memory = true → b.token k.slot.val = tokenTaken → Answered t k (if x.clamped = true then .clamped else .done)
      [bytesWord (uplinkCode u) x.count x.sent 0, halves x.answered x.lost, word (if x.answered = 0 then 0 else x.smallest),
        word (if x.answered = 0 then 0 else x.sum / x.answered)]

/-- What becomes of a running burst of uplink u when one of its entries, or an ordinary one, is resolved and leaves `rest` in the list (R65),
x being the record with the outcome in its tally: it goes on while a burst probe is due or a marked entry is left, and ends otherwise. -/
def BurstGoesOn (s b t : State) (u : Uplink) (rest : List Outstanding) (x : Burst) : Prop :=
  (x.nextDue ≠ none ∨ (∃ y ∈ rest, y.marked = true) → (t.prober u).burst = some x) ∧
  (x.nextDue = none → (∀ y ∈ rest, y.marked = false) → BurstEnded s b t u x)

/-- Ready radio r lost READY (R40, R79), from s to t: WARMING with its power kept, attach_limit restarted, cool_hold stopped, FAILED at
the Judge, and its outstanding list emptied, a running burst with it (R61), which is answered with what was resolved (R66). -/
structure ReadyLost (s b t : State) (r : Radio) : Prop where
  radio  : t.radio r = { s.radio r with
    state := .warming, attachLimit := some (b.after ((s.cfg.timers.get r).attachLimit * 1000)), coolHold := none }
  power  : (t.radio r).powerOutput = true
  failed : FailedUplink s t r.uplink
  prober : t.prober r.uplink = { s.prober r.uplink with outstanding := [], burst := none }
  burst  : ∀ x, (s.prober r.uplink).burst = some x → BurstEnded s b t r.uplink x
  others : ∀ v, v ≠ r.uplink → t.prober v = s.prober v

/-- A filtered change of OPTICAL_LOSS to `level` at the Judge (R22, R74, R78, R81, R86), from s to t: configured fibre fails on assertion,
and on deassertion only its usable decision is worked out anew; the verdict of unprobed fibre follows link and alarm. -/
structure LightDelivered (s t : State) (level : Bool) : Prop where
  asserted   : (s.cfg.records.get .fibre).isSome → level = true → FailedUplink s t .fibre
  deasserted : (s.cfg.records.get .fibre).isSome → level = false → t.judge .fibre = { s.judge .fibre with
    usable := decide ((s.judge .fibre).verdict = .good ∨ (s.judge .fibre).verdict = .poor) && !(s.judge .fibre).suppressed && s.links.f }
  unprobed   : s.cfg.records.get .fibre = none →
    (t.judge .fibre).verdict = (if s.links.f = true ∧ level = false then .good else .failed) ∧
    (t.judge .fibre).usable = (s.links.f && !level && !(t.judge .fibre).suppressed) ∧
    (t.judge .fibre).penalty = (if ((s.judge .fibre).verdict = .good ∨ (s.judge .fibre).verdict = .poor) ∧ (t.judge .fibre).verdict = .failed
      then min 16000 ((s.judge .fibre).penalty + 1000) else (s.judge .fibre).penalty)
  others     : t.probers = s.probers ∧ ∀ v, v ≠ .fibre → t.judge v = { s.judge v with usable := (t.judge v).usable }

/-- What a filtered change of input i to `level` does at the block it is delivered to (R22, R23), from s to t: OPTICAL_LOSS at the Judge,
READY at the Sequencer, line-idle at the Walker when the deassertion leaves both lines deasserted. A change of C0 or C1 acts through
the power tier. -/
def LevelDelivered (s b t : State) (i : Input) (level : Bool) : Prop :=
  let still := t.radios = s.radios ∧ t.judges = s.judges ∧ t.probers = s.probers ∧ t.selector = s.selector
  let ready := fun r : Radio =>
    (level = true → (s.radio r).state = .warming → (s.radio r).warmMin = none → Readied s b t r) ∧
    (level = false → (s.radio r).state.ready = true → ReadyLost s b t r) ∧
    ((level = true → (s.radio r).state ≠ .warming ∨ (s.radio r).warmMin.isSome) → (level = false → (s.radio r).state.ready = false) →
      still ∧ t.walk = s.walk)
  let line := fun other : Bool => still ∧ t.walk = if level = false ∧ other = false then (s.walkTrigger .lineIdle).walk else s.walk
  match i with
  | .opticalLoss => LightDelivered s t level
  | .radioAReady => ready .a
  | .radioBReady => ready .b
  | .lineBusy1 => line s.conditions.filtered.lineBusy2
  | .lineBusy2 => line s.conditions.filtered.lineBusy1
  | .aux => still ∧ t.walk = s.walk
  | .mainsPresent => True
  | .batteryLow => True

/-! ## Received datagrams -/

/-- The length of an IP datagram's header: what an IPv4 header states, and 40 bytes for IPv6. -/
def ipHeaderLength (v : IpVersion) (ip : List Byte) : Nat :=
  match v with
  | .v4 => ipv4HeaderLength ip
  | .v6 => 40

/-- The protocol of an IPv4 header, or the next header of the fixed IPv6 header. -/
def ipProtocol (v : IpVersion) (ip : List Byte) : Byte :=
  match v with
  | .v4 => byteAt ip 9
  | .v6 => byteAt ip 6

/-- The datagram after its IP header. -/
def udpOf (v : IpVersion) (ip : List Byte) : List Byte := (ip.take (receivedLength v ip)).drop (ipHeaderLength v ip)

/-- ip is an IP datagram of record c that carries `payload` in UDP, by the tests that R12 and R17 share: the record's version and local
address, no fragment, UDP to the local port, 16 payload bytes at least. The tests of the header length and of the UDP length are the
model's (log entries 41 and 14). -/
structure Carries (c : AddressRecord) (v : IpVersion) (ip payload : List Byte) : Prop where
  version  : c.version = v
  dest     : ipDest v ip = c.localAddress
  field    : ipVersionField ip = versionCode v
  whole    : v = .v4 → ipv4MoreFragments ip = false ∧ ipv4FragmentOffset ip = 0
  header   : (v = .v4 → 20 ≤ ipHeaderLength v ip) ∧ ipHeaderLength v ip ≤ ip.length
  protocol : ipProtocol v ip = 17
  port     : beAt (udpOf v ip) 2 2 = c.localPort.toNat
  length   : 24 ≤ beAt (udpOf v ip) 4 2 ∧ beAt (udpOf v ip) 4 2 ≤ (udpOf v ip).length
  payload  : payload = ((udpOf v ip).take (beAt (udpOf v ip) 4 2)).drop 8

/-- The two checksum tests of R12: the IPv4 header's checksum is right, and so is a UDP checksum that is not 0; 0 stands on IPv4 only. -/
structure Checksummed (v : IpVersion) (ip payload : List Byte) : Prop where
  header : v = .v4 → beAt ip 10 2 =
    checksum (slice ip 0 10 ++ [0, 0] ++ (ip.take (ipv4HeaderLength ip)).drop 12)
  zero   : beAt (udpOf v ip) 6 2 = 0 → v = .v4
  udp    : beAt (udpOf v ip) 6 2 ≠ 0 → beAt (udpOf v ip) 6 2 =
    udpChecksum v (ipSource v ip) (ipDest v ip) (beAt (udpOf v ip) 0 2) (beAt (udpOf v ip) 2 2) payload

/-- Each field of a carry header fits in the bits it has on the wire (R187). -/
structure CarryHeader.Fits (h : CarryHeader) : Prop where
  version : h.version < 16
  kind    : h.kind < 16
  path    : h.path < 256
  cls     : h.cls < 256
  part    : h.part < 256

/-- A received echo at the Probe Engine (R58), from s to t with `b` the state at the moment of the command: one without an entry counts late,
one whose nonce is not the entry's counts discarded, and the entry's own is resolved ANSWERED, tallied in a burst that marked it (which
ends, and is answered, with its last marked entry, R65), and handed to the Judge (while no radio drains). No other uplink, no wire and no
entry of the flow table changes. -/
structure EchoMatched (s b t : State) (u : Uplink) (sequence nonce : BitVec 16) : Prop where
  late      : (s.prober u).entry sequence = none → t.judges = s.judges ∧
    t.prober u = { s.prober u with counters := { (s.prober u).counters with late := min 65535 ((s.prober u).counters.late + 1) } }
  discarded : ∀ e, (s.prober u).entry sequence = some e → e.nonce ≠ nonce → t.judges = s.judges ∧
    t.prober u = { s.prober u with
      counters := { (s.prober u).counters with discarded := min 65535 ((s.prober u).counters.discarded + 1) } }
  answered  : ∀ e, (s.prober u).entry sequence = some e → e.nonce = nonce → s.undrained →
    let rtt := (b.clock.micros - e.sentAt).toNat
    let rest := (s.prober u).outstanding.filter (fun x => x.sequence != sequence)
    (t.prober u).outstanding = rest ∧
    (t.prober u).counters = { (s.prober u).counters with answered := min 65535 ((s.prober u).counters.answered + 1) } ∧
    (t.prober u).timer = (s.prober u).timer ∧ (t.prober u).sequence = (s.prober u).sequence ∧
    (∀ x, (s.prober u).burst = some x →
      BurstGoesOn s b t u rest (if e.marked then
        { x with answered := x.answered + 1, sum := x.sum + rtt, smallest := if x.answered = 0 then rtt else min x.smallest rtt } else x)) ∧
    ((t.judge u).verdict ≠ .failed →
      (t.judge u).window = (if 32 ≤ (s.judge u).window.length then (s.judge u).window.tail else (s.judge u).window) ++ [.answered] ∧
      (t.judge u).srtt = some (smooth (s.judge u).srtt rtt) ∧ (t.judge u).runLost = 0 ∧
      (t.judge u).runAnswered = min 32 ((s.judge u).runAnswered + 1)) ∧
    ∀ v, v ≠ u → t.judge v = { s.judge v with usable := (t.judge v).usable }
  others    : (∀ e, (s.prober u).entry sequence = some e → e.nonce ≠ nonce) ∨ s.undrained → ∀ v, v ≠ u → t.prober v = s.prober v
  wire      : t.wire = s.wire
  flows     : t.flows = s.flows

/-- The body of a frame received on F that is an echo with carry header h (R17). -/
def State.EchoOnFibre (s : State) (body : List Byte) (h : CarryHeader) : Prop := ∃ c v inner,
  s.cfg.records.fibre = some c ∧ etherVersion body = some v ∧ Carries c v (etherPayload body) (h.bytes ++ inner) ∧ h.Fits ∧
  h.version = 1 ∧ h.kind = 3 ∧ h.path = 0 ∧ h.siteId = s.cfg.siteId

/-- The flow table after the lookup of a downstream body whose frame at the LAN port is `length` bytes long (R119). -/
def FlowTable.seenDown (f : FlowTable) (now : Word) (body : List Byte) (length : Nat) : FlowTable :=
  match keyOf body with
  | none => f
  | some k => match entryOfKey f.entries k.reversed with
    | none => f
    | some (i, e) => { f with
        entries := replaceEntry f.entries i { e with lastSeen := now, downBytes := e.downBytes + BitVec.ofNat 64 length } }

/-! ## A judgement part -/

/-- The verdict of record j under settings p, by the rows of R74 in their order; `lit` is fibre's further term of a recovery, true for a
radio. Each test of the smoothed delay is false while it is void. -/
def Judgement.verdictUnder (j : Judgement) (p : JudgeSettings) (lit : Bool) : Verdict :=
  let lost := j.window.countP (· == .lost)
  let limit := p.delayLimit * 1000
  let recovered : Verdict := if lost ≤ p.goodLoss ∧ j.srtt.any (fun x => decide (x ≤ limit)) = true then .good else .poor
  if p.failRun ≤ j.runLost ∨ p.failLoss ≤ lost then .failed
  else match j.verdict with
    | .unknown => if p.recoverRun ≤ j.runAnswered ∧ lit = true then recovered else .unknown
    | .good => if p.goodLoss < lost ∨ j.srtt.any (fun x => decide (limit < x)) = true then .poor else .good
    | .poor => if lost ≤ p.goodLoss ∧ j.srtt.any (fun x => decide (x ≤ limit - limit / 8)) = true then .good else .poor
    | .failed => if p.recoverRun ≤ j.runAnswered ∧ lit = true then recovered else .failed

/-- The merit of record j under settings p (R76). -/
def Judgement.meritUnder (j : Judgement) (p : JudgeSettings) : Option Nat :=
  if j.window = [] then none
  else some (1000 - j.window.countP (· == .lost) * 600 / j.window.length -
    (match j.srtt with
      | none => 400
      | some d => min d (2 * (p.delayLimit * 1000)) * 400 / (2 * (p.delayLimit * 1000))))

/-- New judgement settings q in place of p call for a re-judge (R88). -/
def JudgeSettings.retuned (p q : JudgeSettings) : Prop :=
  q.failRun ≠ p.failRun ∨ q.failLoss ≠ p.failLoss ∨ q.goodLoss ≠ p.goodLoss ∨ q.recoverRun ≠ p.recoverRun ∨ q.delayLimit ≠ p.delayLimit

/-- Record j became k when the judgement settings of its uplink became q, where they were p, with no addressing change (R85, R88, R89): the
re-judge, when they call for one, then the suppression test, when a level changed. `flagged` is the suppressed flag between the two. -/
structure Rejudged (j k : Judgement) (p q : JudgeSettings) (lit : Bool) (decayDue : Word) (flagged : Bool) : Prop where
  kept       : ¬ p.retuned q → flagged = j.suppressed ∧ k = { j with usable := k.usable, suppressed := k.suppressed }
  verdict    : p.retuned q → k.verdict = j.verdictUnder q lit
  passes     : p.retuned q → ¬ (q.failRun ≤ j.runLost ∨ q.failLoss ≤ j.window.countP (· == .lost)) → flagged = j.suppressed ∧
    k = { j with verdict := k.verdict, merit := j.meritUnder q, usable := k.usable, suppressed := k.suppressed }
  fails      : p.retuned q → (q.failRun ≤ j.runLost ∨ q.failLoss ≤ j.window.countP (· == .lost)) →
    k.window = [] ∧ k.srtt = none ∧ k.merit = none ∧ k.runAnswered = 0 ∧ k.runLost = 0 ∧
    (j.verdict = .good ∨ j.verdict = .poor → k.penalty = min 16000 (j.penalty + 1000) ∧
      k.decayTimer = (if j.penalty = 0 then some decayDue else j.decayTimer) ∧
      flagged = (j.suppressed || decide (q.suppress ≤ k.penalty))) ∧
    (j.verdict = .unknown ∨ j.verdict = .failed → k.penalty = j.penalty ∧ k.decayTimer = j.decayTimer ∧ flagged = j.suppressed)
  suppressed : k.suppressed = if q.suppress = p.suppress ∧ q.reuse = p.reuse then flagged
    else if flagged = true then decide (q.reuse < k.penalty) else decide (q.suppress ≤ k.penalty)

/-! ## Invariants -/

/-- Each meter: R no higher than A, used and overage within 2^48−1, and the tier the one R147 derives (R146 to R148). -/
def State.metersHold (s : State) : Prop := ∀ r,
  (s.meter r).remaining ≤ (s.cfg.meters.get r).allowance ∧ (s.meter r).used ≤ 2 ^ 48 - 1 ∧ (s.meter r).overage ≤ 2 ^ 48 - 1 ∧
  (s.meter r).tier = tierOf (s.cfg.meters.get r) (s.meter r).remaining

/-- Each class's bucket holds no more than its depth (R157). -/
def State.bucketsHold (s : State) : Prop := ∀ c, (s.policer.buckets.get c).tokens ≤ 8 * (s.cfg.classes.get c).burst

/-- The settings in force are such as every request checks them: an image of them, whatever R it holds, is accepted and gives them again
(R177, R180). -/
def State.settingsHold (s : State) : Prop := ∀ r : PerRadio Nat, settingsOf (imageOf s.cfg r) = some s.cfg

/-- A re-test of radio r waits: a carrier change, or a crossing of its count (R33, R44, R122). -/
def State.retestWaits (s : State) (r : Radio) : Prop := .carrierMoved ∈ s.deliveries ∨ .countCrossed r ∈ s.deliveries

/-- The radios: an OFF radio has no assigned entry and is not the carrier, and does not drain (R34, R43); in RESERVE one radio at most is
out of OFF and not draining (R37); and before the part steers both are OFF and nothing waits for the Sequencer (R50). Unless a re-test
of it waits, a ready radio is CARRYING exactly when it is the carrier or has an assigned entry (R33), and a radio drains only while it is
the carrier or has one (R44). -/
structure State.RadiosHold (s : State) : Prop where
  off    : ∀ r, (s.radio r).state = .off →
    s.radioCount r = 0 ∧ s.selector.carrier ≠ r.uplink ∧ (s.radio r).draining = false ∧ (s.radio r).powerOutput = false
  limit  : s.conditions.powerTier = .reserve → ∀ r, (s.radio r).state ≠ .off → (s.radio r).draining = false →
    (s.radio r.other).state = .off ∨ (s.radio r.other).draining = true
  start  : s.phase ≠ .steering → s.deliveries = [] ∧ ∀ r, (s.radio r).state = .off
  ready  : ∀ r, s.retestWaits r ∨ ((s.radio r).state.ready = true →
    ((s.radio r).state = .carrying ↔ s.selector.carrier = r.uplink ∨ 0 < s.radioCount r))
  drains : ∀ r, s.retestWaits r ∨ ((s.radio r).draining = true → s.selector.carrier = r.uplink ∨ 0 < s.radioCount r)

/-- One judgement record: 32 outcomes at most, runs up to 32 of which one at most is nonzero, a smoothed delay and a merit in range, a
merit exactly while an outcome is held, a penalty in range, and the decay timer running exactly while there is one (R71 to R73,
R76, R82, R83). -/
structure Judgement.Holds (j : Judgement) : Prop where
  window  : j.window.length ≤ 32
  runs    : j.runAnswered ≤ 32 ∧ j.runLost ≤ 32 ∧ (j.runAnswered = 0 ∨ j.runLost = 0)
  srtt    : ∀ x, j.srtt = some x → x ≤ 2000000
  merit   : ∀ x, j.merit = some x → x ≤ 1000
  judged  : j.merit.isSome = true ↔ j.window ≠ []
  penalty : j.penalty ≤ 16000
  decay   : j.decayTimer.isSome = true ↔ 0 < j.penalty

def State.judgementsHold (s : State) : Prop := ∀ u, (s.judge u).Holds

/-- Each usable decision is what its terms give (R86); before the part steers every verdict is UNKNOWN (R69). -/
def State.decisionsHold (s : State) : Prop :=
  (∀ u, s.usable u = s.usableTerms u) ∧ (s.phase ≠ .steering → ∀ u, (s.judge u).verdict = .unknown)

/-- The flow table: indices rising below 1024, one entry for each key, the four counts those of the entries, and an assignment of NONE
exactly for a SHED entry (R109, R110, R122, R130). -/
structure FlowTable.Holds (f : FlowTable) : Prop where
  rising  : f.entries.Pairwise (fun p q => p.1 < q.1)
  bound   : ∀ p ∈ f.entries, p.1 < 1024
  keys    : (f.entries.map (fun p => p.2.key)).Nodup
  counted : ∀ a, f.counts.get a = f.entries.countP (fun p => decide (p.2.assigned = a))
  shed    : ∀ p ∈ f.entries, p.2.assigned = none ↔ p.2.state = .shed

/-- The exchange: eight requests at most in the queue, a sweep at one of the 32 slots, no queue, sweep or copy while RUN is 0, the
reserved bits of CONTROL and the low 12 bits of AREA_LOW 0 (R161, R165, R166, R174, R183). -/
structure State.ExchangeHolds (s : State) : Prop where
  queue   : s.exchange.queue.length ≤ 8
  sweep   : ∀ n, s.exchange.sweepAt = some n → n < 32
  stopped : s.running = false → s.exchange.queue = [] ∧ s.exchange.sweepAt = none ∧ s.exchange.sweepPending = false ∧
    s.exchange.sweepTimer = none ∧ s.exchange.copy = none ∧ s.inFlightOf .copy = none
  control : s.regs.control &&& 0xFFFF00C0 = 0
  area    : s.regs.areaLow &&& 0xFFF = 0

/-! ## The end of the settings load -/

/-- Radio r as a warm taken at the moment of s leaves it (R36): powered from now on, WARMING, its two timers running. -/
def State.warmed (s : State) (c : Settings) (r : Radio) : RadioUnit :=
  { s.radio r with
    state := .warming, draining := false, poweredAt := some s.now, poweredWraps := s.clock.wraps
    warmMin := some (s.after ((c.timers.get r).warmMin * 1000))
    attachLimit := some (s.after ((c.timers.get r).attachLimit * 1000)), retryWait := none }

/-- The starting deliveries of a load that ended in s with settings c, as t shows them (R1, R25, R81, R41, R50): link-down and alarm make a
verdict FAILED from UNKNOWN, unprobed fibre takes the derived verdict, none of them with a penalty; a radio of WARM policy warms, in
RESERVE the preferred one alone where both have it; a radio of COLD policy stays OFF where fibre is usable, and in RESERVE beside one
that warms. -/
structure StartDelivered (s t : State) (c : Settings) : Prop where
  radios   : ∀ r : Radio, (t.judge r.uplink).verdict = if s.links.get r.port = true then .unknown else .failed
  probed   : (c.records.get .fibre).isSome = true → (t.judge .fibre).verdict =
    if s.links.f = true ∧ s.conditions.raw.opticalLoss = false then .unknown else .failed
  unprobed : c.records.get .fibre = none →
    (t.judge .fibre).verdict = (if s.links.f = true ∧ s.conditions.raw.opticalLoss = false then .good else .failed) ∧
    (t.judge .fibre).usable = (s.links.f && !s.conditions.raw.opticalLoss && !(s.judge .fibre).suppressed)
  emptied  : ∀ u, (t.judge u).verdict = .failed → (t.judge u).window = [] ∧ (t.judge u).srtt = none ∧ (t.judge u).merit = none ∧
    (t.judge u).runAnswered = 0 ∧ (t.judge u).runLost = 0
  penalty  : ∀ u, (t.judge u).penalty = (s.judge u).penalty ∧ (t.judge u).suppressed = (s.judge u).suppressed ∧
    (t.judge u).decayTimer = (s.judge u).decayTimer
  warms    : tierOfLevels s.conditions.raw ≠ .reserve → ∀ r, (c.timers.get r).policy = .warm → t.radio r = s.warmed c r
  alone    : tierOfLevels s.conditions.raw = .reserve → ∀ r, (c.timers.get r).policy = .warm →
    ((c.timers.get r.other).policy = .cold ∨ (c.judges.get r.other.uplink).bias < (c.judges.get r.uplink).bias ∨
      (r = .a ∧ (c.judges.get r.other.uplink).bias = (c.judges.get r.uplink).bias)) →
    t.radio r = s.warmed c r ∧ t.radio r.other = s.radio r.other
  cold     : s.selector.carrier = .fibre → (t.judge .fibre).usable = true → ∀ r, (c.timers.get r).policy = .cold → t.radio r = s.radio r

/-- What a state t shows when the settings load has ended in state s with settings c, stored allowances and a report (R159, R177,
R178, R179): steering; the settings and the report; the filtered levels, tier and conformity of the pins; each meter; full buckets;
and the timers that start. -/
structure LoadEnded (s t : State) (powerOn : Bool) (c : Settings) (stored : PerRadio Nat) (report : LoadReport) : Prop where
  phase      : t.phase = .steering
  cfg        : t.cfg = c
  report     : t.store.report = report
  image      : t.store.image = s.store.image
  raw        : t.conditions.raw = s.conditions.raw
  filtered   : t.conditions.filtered = s.conditions.raw
  changes    : ∀ i, t.conditions.changes.get i = none
  tier       : t.conditions.powerTier = tierOfLevels s.conditions.raw ∧ t.conditions.powerTier =
    match s.conditions.raw.mainsPresent, s.conditions.raw.batteryLow with
    | true, _ => .mains
    | false, false => .battery
    | false, true => .reserve
  conforming : t.conditions.conforming = decide ((inputBits s.conditions.raw ^^^ c.watch.pattern) &&& c.watch.mask = 0)
  remaining  : ∀ r, (t.meter r).remaining = min (if powerOn then stored.get r else (s.meter r).remaining) (c.meters.get r).allowance
  used       : ∀ r, (t.meter r).used = if powerOn then 0 else (s.meter r).used
  overage    : ∀ r, (t.meter r).overage = if powerOn then 0 else (s.meter r).overage
  tiers      : ∀ r, (t.meter r).tier = tierOf (c.meters.get r) (t.meter r).remaining
  buckets    : ∀ k, (t.policer.buckets.get k).tokens = 8 * (c.classes.get k).burst ∧ (t.policer.buckets.get k).lastCredit = s.now
  refresh    : t.policer.refresh = some (s.after 1000)
  ageing     : t.flows.ageing = some (s.after 1000)
  evaluation : t.selector.evaluation = some (s.after 1000)
  probes     : ∀ u, (t.prober u).timer = some s.now
  delivered  : s.decisionsHold → s.RadiosHold → (∀ r, (s.radio r).retryWait = none) → StartDelivered s t c

end Sys2Proof.Machine
end

