-- ==== Sys2Proof/Certificates/Slice0/Obligations.lean ====
section
/-! DEFINITION. The statements for the provers. Each docstring names the rows of the opcode table it is about. -/

open Sys2Proof Sys2Proof.Machine

/-! ## Steps, reset, power and the load -/

/-- A step takes the command at the front of the queue, with the queue's rest in place; on an empty queue the part idles (the model's
choice, log entry 6). -/
def Obligations.StepTakesTheFrontCommand : Prop :=
  (∀ (s : State) (i : Instr) (rest : List Instr), s.pending = i :: rest → step s = exec i { s with pending := rest }) ∧
  ∀ s : State, s.pending = [] → step s = .next s

/-- The state after reset: the values the manual states, and every invariant below. -/
def Obligations.ResetStateIsAsStated : Prop :=
  let z := State.reset
  z.phase = .loading ⟨true, 0, 0, 0⟩ ∧ z.now = 0 ∧ (∀ o, z.links.get o = false) ∧ z.regs = ⟨0, 0, 0, 0⟩ ∧
  z.exchange.queue = [] ∧ z.exchange.inFlight = [] ∧ z.flows.entries = [] ∧ z.walk = none ∧
  z.selector.carrier = .fibre ∧ z.selector.mode = .steering ∧ z.selector.stranded = false ∧ z.selector.holdTimer = none ∧
  (∀ r, (z.radio r).state = .off ∧ (z.radio r).powerOutput = false ∧ (z.radio r).draining = false ∧ (z.framer r).sequence = 0 ∧
    (z.framer r).held = []) ∧
  (∀ u, (z.judge u).verdict = .unknown ∧ (z.judge u).penalty = 0 ∧ (z.judge u).suppressed = false ∧ (z.judge u).window = [] ∧
    (z.prober u).sequence = 0 ∧ (z.prober u).outstanding = []) ∧
  (∀ i, step { z with pending := [i] } = exec i z) ∧
  memoryWf z.memory = true ∧ z.metersHold ∧ z.judgementsHold ∧ z.decisionsHold ∧ z.flows.Holds ∧ z.ExchangeHolds ∧
  z.bucketsHold ∧ z.RadiosHold ∧ z.settingsHold

/-- POWER_ON, POWER_LOSS and DEVICE_RESET, completely. What the manual does not say of a part without supply, and the time and load report
that a device reset keeps, are the model's choice (log entries 18 and 19). -/
def Obligations.PowerAndResetRestartThePart : Prop := ∀ (s : State) (m : Moment),
  exec (.powerOn m) s = .next
    { State.reset with
      conditions := { Conditions.reset with raw := s.conditions.raw }
      store := { SettingsStore.reset with image := s.store.image }
      memory := writeCells s.memory m.hostWrites
      wire := s.wire
      access := m.failing
      supply := m.supplyInRange
      pending := s.pending } ∧
  exec (.powerLoss m) s = .next
    { State.reset with
      phase := .unpowered
      conditions := { Conditions.reset with raw := s.conditions.raw }
      store := { SettingsStore.reset with image := s.store.image }
      memory := writeCells s.memory m.hostWrites
      wire := s.wire
      access := m.failing
      supply := m.supplyInRange
      pending := s.pending } ∧
  ∀ w : Word, s.phase = .steering → w.getLsbD 6 = true →
    exec (.deviceReset m w) s = .next
      { State.reset with
        phase := .loading ⟨false, 0, 0, 0⟩
        clock := s.clock.advance m.elapsed
        links := s.links
        cfg := { Settings.factory with meters := s.cfg.meters }
        conditions := { Conditions.reset with raw := s.conditions.raw }
        meters := s.meters
        store := ⟨s.store.image, s.store.report, none⟩
        memory := writeCells s.memory m.hostWrites
        wire := s.wire
        access := m.failing
        supply := m.supplyInRange
        pending := s.pending }

/-- LOAD_BLOCK_READ: a block that is not the last goes on with the load; an uncorrectable one, an invalid header, a refused value and the
last block end it, with the starting deliveries of R1, R25, R81 and R50. That the items are decoded after the last block is the model's
choice (log entry 20), and so is that the policy warms come before the first evaluation (log entry 33), which decides which radio warms in
RESERVE and with which of the two kinds of warm. -/
def Obligations.LoadBlockReadGoesOnOrEndsTheLoad : Prop := ∀ (s : State) (m : Moment) (p : LoadProgress), s.phase = .loading p →
  (∃ t, exec (.loadBlockRead m .uncorrectable) s = .next t ∧
    LoadEnded (s.begin m) t p.powerOn Settings.factory (.all 0) ⟨.defaultsError, p.corrected, p.lastCorrected⟩) ∧
  ∀ b, b ≠ .uncorrectable →
    let corrected := if b = .corrected then p.corrected + 1 else p.corrected
    let lastCorrected := if b = .corrected then p.next else p.lastCorrected
    (s.store.image = none → ∃ t, exec (.loadBlockRead m b) s = .next t ∧
      LoadEnded (s.begin m) t p.powerOn Settings.factory (.all 0) ⟨.defaultsEmpty, corrected, lastCorrected⟩) ∧
    ∀ i, s.store.image = some i →
      (p.next + 1 < 128 → s.deliveries = [] →
        exec (.loadBlockRead m b) s = .next { s.begin m with phase := .loading ⟨p.powerOn, p.next + 1, corrected, lastCorrected⟩ }) ∧
      (128 ≤ p.next + 1 → ∃ t, exec (.loadBlockRead m b) s = .next t ∧
        match settingsOf i with
        | none => LoadEnded (s.begin m) t p.powerOn Settings.factory (.all 0) ⟨.defaultsError, corrected, lastCorrected⟩
        | some c => LoadEnded (s.begin m) t p.powerOn c ⟨i.remaining.a.toNat, i.remaining.b.toNat⟩
            ⟨if corrected = 0 then .loaded else .loadedCorrected, corrected, lastCorrected⟩)

/-! ## Ports and frames -/

/-- PASSTHROUGH_FRAME: in PASSTHROUGH LAN and F are bridged and the radio ports discard. -/
def Obligations.PassthroughBridgesLanAndFibre : Prop := ∀ (s : State) (m : Moment) (p : LoadProgress) (o : Port) (frame : List Byte),
  s.phase = .loading p → s.links.get o = true → s.deliveries = [] →
  exec (.passthroughFrame m o frame) s = .next
    (if fcsRight frame = true ∧ frame.length ≤ 1518 then
      match o with
      | .lan => if s.links.f then { s.begin m with wire := s.wire ++ [(.f, frame)] } else s.begin m
      | .f => if s.links.lan then { s.begin m with wire := s.wire ++ [(.lan, frame)] } else s.begin m
      | .ra => s.begin m
      | .rb => s.begin m
    else s.begin m)

/-- LINK_UP and LINK_DOWN: the port's link takes the new state and nothing of time, settings, flows, meters, policer or wires is touched;
outside steering that is all. A link-down on a steering part makes the probed uplink FAILED and not usable, with its window, runs,
smoothed delay and merit emptied, and adds the flap penalty, which may suppress it, when its verdict was GOOD or POOR; the VERDICT notice
and after it the SUPPRESSION notice say so (R90, R91). While the fibre record is unconfigured either link event of F derives the verdict
from link and alarm (R81): GOOD while the link is UP and OPTICAL_LOSS deasserted, else FAILED, with the penalty from GOOD, and VERDICT with
cause LINK_DOWN on a change. -/
def Obligations.LinkEventsReachTheJudge : Prop := ∀ (s : State) (m : Moment),
  (∀ o, s.phase ≠ .unpowered →
    (∃ t, exec (.linkUp m o) s = .next t ∧ Steady { s.begin m with links := s.links.set o true } t) ∧
    (∃ t, exec (.linkDown m o) s = .next t ∧ Steady { s.begin m with links := s.links.set o false } t) ∧
    (s.phase ≠ .steering → s.deliveries = [] →
      exec (.linkUp m o) s = .next { s.begin m with links := s.links.set o true } ∧
      exec (.linkDown m o) s = .next { s.begin m with links := s.links.set o false })) ∧
  (∀ up : Bool, s.phase = .steering → s.links.f = !up → s.cfg.records.get .fibre = none → s.undrained →
    let b := s.begin m
    let j := s.judge .fibre
    let lit := up = true ∧ s.conditions.filtered.opticalLoss = false
    let fails := ¬ lit ∧ (j.verdict = .good ∨ j.verdict = .poor)
    ∃ t, exec (if up then .linkUp m .f else .linkDown m .f) s = .next t ∧
      let k := t.judge .fibre
      (lit → k.verdict = .good) ∧ (¬ lit → k.verdict = .failed) ∧ (k.usable = true ↔ lit ∧ k.suppressed = false) ∧
      (fails → k.penalty = min 16000 (j.penalty + 1000) ∧
        k.suppressed = (j.suppressed || decide ((s.cfg.judges.get .fibre).suppress ≤ k.penalty))) ∧
      (¬ fails → k.penalty = j.penalty ∧ k.suppressed = j.suppressed ∧ k.decayTimer = j.decayTimer) ∧
      (¬ lit → j.verdict ≠ .failed →
        k.window = [] ∧ k.srtt = none ∧ k.merit = none ∧ k.runAnswered = 0 ∧ k.runLost = 0) ∧
      (lit → k = { j with verdict := .good, usable := k.usable }) ∧
      t.probers = s.probers ∧ (∀ v, v ≠ .fibre → t.judge v = { s.judge v with usable := (t.judge v).usable }) ∧
      (Undisturbed s m → k.verdict ≠ j.verdict →
        (b.unread < 128 → t.noted s.exchange.writeCount.toNat ⟨.verdict, 0, verdictCode j.verdict, verdictCode k.verdict, 3, k.penalty,
          lostIn j.window, j.window.length⟩ b.now) ∧
        (b.unread < 127 → k.suppressed ≠ j.suppressed → t.noted (s.exchange.writeCount.toNat + 1) ⟨.suppression, 0, 0, 1, k.penalty,
          (s.cfg.judges.get .fibre).suppress, (s.cfg.judges.get .fibre).reuse, 0⟩ b.now))) ∧
  ∀ u : Uplink, s.phase = .steering → s.links.get u.port = true → (u = .fibre → (s.cfg.records.get .fibre).isSome) → s.undrained →
    ∃ t, exec (.linkDown m u.port) s = .next t ∧
      (t.judge u).verdict = .failed ∧ (t.judge u).usable = false ∧ (t.judge u).window = [] ∧ (t.judge u).srtt = none ∧
      (t.judge u).merit = none ∧ (t.judge u).runAnswered = 0 ∧ (t.judge u).runLost = 0 ∧
      (t.judge u).penalty = (if (s.judge u).verdict = .good ∨ (s.judge u).verdict = .poor then min 16000 ((s.judge u).penalty + 1000)
        else (s.judge u).penalty) ∧
      (∀ v, v ≠ u → t.judge v = { s.judge v with usable := (t.judge v).usable }) ∧ t.probers = s.probers ∧
      (t.judge u).suppressed = ((s.judge u).suppressed || decide (((s.judge u).verdict = .good ∨ (s.judge u).verdict = .poor) ∧
        (s.cfg.judges.get u).suppress ≤ (t.judge u).penalty)) ∧
      (Undisturbed s m → (s.judge u).verdict ≠ .failed →
        let b := s.begin m
        let at' := s.exchange.writeCount.toNat
        (b.unread < 128 → t.noted at' ⟨.verdict, uplinkCode u, verdictCode (s.judge u).verdict, verdictCode .failed, 3,
          (t.judge u).penalty, lostIn (s.judge u).window, (s.judge u).window.length⟩ b.now) ∧
        (b.unread < 127 → (t.judge u).suppressed ≠ (s.judge u).suppressed → t.noted (at' + 1) ⟨.suppression, uplinkCode u, 0, 1,
          (t.judge u).penalty, (s.cfg.judges.get u).suppress, (s.cfg.judges.get u).reuse, 0⟩ b.now))

/-- UPSTREAM_FRAME of a flow the table holds: a bad frame is discarded; a good one touches its entry and leaves by fibre unchanged, is
discarded while F is DOWN, or is dropped and counted for a SHED entry. Assigned to a radio whose port link is DOWN or whose record is
unconfigured it is discarded too: its entry is touched, and no token, carry sequence, wire or meter is (R3). The key is read by R111:
version, addresses, protocol, and the ports of TCP or UDP after the IP header, 0 in a fragment that is not the first and where the frame
holds no 4 bytes there; the frames of R112 have none. That the FCS counts for no byte of these is log entry 40. -/
def Obligations.UpstreamFrameOfALiveFlow : Prop := ∀ (s : State) (m : Moment) (frame : List Byte),
  s.phase = .steering → s.links.lan = true → s.deliveries = [] →
  (let body := lessFcs frame
    let ip := body.drop 14
    let h := 4 * ((byteAt ip 0).toNat % 16)
    let ports := fun (p : Byte) (n : Nat) => if (p = 6 ∨ p = 17) ∧ n + 4 ≤ ip.length
      then (BitVec.ofNat 16 (beAt ip n 2), BitVec.ofNat 16 (beAt ip (n + 2) 2)) else (0, 0)
    keyOf body =
      if 14 ≤ body.length ∧ beAt body 12 2 = 0x0800 ∧ (byteAt ip 0).toNat / 16 = 4 ∧ 20 ≤ h ∧ h ≤ ip.length then
        let p := if beAt ip 6 2 % 8192 = 0 then ports (byteAt ip 9) h else (0, 0)
        some ⟨.v4, addressOfWire .v4 (slice ip 12 4), addressOfWire .v4 (slice ip 16 4), byteAt ip 9, p.1, p.2⟩
      else if 14 ≤ body.length ∧ beAt body 12 2 = 0x86DD ∧ (byteAt ip 0).toNat / 16 = 6 ∧ 40 ≤ ip.length then
        let p := ports (byteAt ip 6) 40
        some ⟨.v6, addressOfWire .v6 (slice ip 8 16), addressOfWire .v6 (slice ip 24 16), byteAt ip 6, p.1, p.2⟩
      else none) ∧
  ((fcsRight frame = false ∨ frame.length < 64 ∨ 1518 < frame.length) → exec (.upstreamFrame m frame) s = .next (s.begin m)) ∧
  ∀ k i e, fcsRight frame = true → 64 ≤ frame.length → frame.length ≤ 1518 → keyOf (lessFcs frame) = some k →
    entryOfKey s.flows.entries k = some (i, e) →
    let touched : State := { s.begin m with
      flows := { s.flows with entries := (replaceEntry s.flows.entries i
        { e with lastSeen := (s.begin m).now, upBytes := e.upBytes + BitVec.ofNat 64 frame.length }) } }
    (e.assigned = some .fibre → s.links.f = true →
      exec (.upstreamFrame m frame) s = .next { touched with wire := s.wire ++ [(.f, frame)] }) ∧
    (e.assigned = some .fibre → s.links.f = false → exec (.upstreamFrame m frame) s = .next touched) ∧
    (∀ r : Radio, e.assigned = some r.uplink → (s.links.get r.port = false ∨ s.cfg.records.get r.uplink = none) →
      exec (.upstreamFrame m frame) s = .next touched) ∧
    (e.assigned = none → exec (.upstreamFrame m frame) s = .next
      { touched with flows := { touched.flows with
        shed := s.flows.shed.set e.trafficClass (min 65535 (s.flows.shed.get e.trafficClass + 1)) } })

/-- UPSTREAM_FRAME of a key the table does not hold, or of no key. With room, an entry at the lowest free index, placed by R130, counted in
the assigned counts and in the creations, and nothing of the other entries is touched. In a full table the entry seen least recently of
those that are neither VOICE nor pinned, the lowest index of equals, gives its place to the new one (R117); with no such entry the frame is
refused and counted, the first refusal since the counter was 0 recorded as TABLE_FULL (R118). A refused or unkeyed frame (R112) touches no
entry and takes the carrier with class STANDARD: it leaves by fibre, or is counted as shed where the carrier radio does not admit it. The
class and the pin are those of the first valid rule that matches (R113): protocol, destination port of TCP or UDP, DSCP and destination
prefix, each where the rule holds it; with none they are STANDARD and absent. -/
def Obligations.UpstreamFrameCreatesAnEntry : Prop := ∀ (s : State) (m : Moment) (frame : List Byte),
  s.phase = .steering → s.links.lan = true → fcsRight frame = true → 64 ≤ frame.length → frame.length ≤ 1518 →
  let b := s.begin m
  let age := fun e : FlowEntry => (b.now - e.lastSeen).toNat
  let fixed := fun e : FlowEntry => e.trafficClass = .voice ∨ e.pin.isSome = true
  let sent := if s.links.f then s.wire ++ [(.f, frame)] else s.wire
  let shed := s.flows.shed.set .standard (min 65535 (s.flows.shed.get .standard + 1))
  (∀ r, s.admits .standard r = true ↔
    allowanceTierCode (s.meter r).tier ≤ allowanceTierCode (s.cfg.classes.get .standard).radioAdmission ∧
    powerTierCode s.conditions.powerTier ≤ powerTierCode (s.cfg.classes.get .standard).powerAdmission) ∧
  (∀ k, keyOf (lessFcs frame) = some k → entryOfKey s.flows.entries k = none →
    let found := classify s.cfg.rules k (frameDscp (lessFcs frame))
    let dscp := match k.version with
      | .v4 => (byteAt (lessFcs frame) 15).toNat / 4
      | .v6 => ((byteAt (lessFcs frame) 14).toNat % 16 * 16 + (byteAt (lessFcs frame) 15).toNat / 16) / 4
    let met := fun x : Rule =>
      (x.protocol = .any ∨ (x.protocol = .tcp ∧ k.protocol = 6) ∨ (x.protocol = .udp ∧ k.protocol = 17) ∨
        (x.protocol = .icmp ∧ (k.version = .v4 ∧ k.protocol = 1 ∨ k.version = .v6 ∧ k.protocol = 58))) ∧
      (∀ lo hi, x.ports = some (lo, hi) → (k.protocol = 6 ∨ k.protocol = 17) ∧ lo ≤ k.dstPort.toNat ∧ k.dstPort.toNat ≤ hi) ∧
      (∀ n, x.dscp = some n → n = dscp) ∧
      ∀ p, x.dest = some p → p.version = k.version ∧
        p.address.toNat / 2 ^ (128 - p.length) = k.dest.toNat / 2 ^ (128 - p.length)
    let placed := s.place found.1 found.2 none
    let new : FlowEntry :=
      ⟨k, found.1, placed.assigned, placed.state, found.2, b.now, b.now, BitVec.ofNat 64 frame.length, 0, 0⟩
    (∀ (i : Nat) (x : Rule), s.cfg.rules[i]? = some (some x) → met x →
      (∀ (j : Nat) (y : Rule), j < i → s.cfg.rules[j]? = some (some y) → ¬ met y) → found = (x.trafficClass, x.pin)) ∧
    ((∀ (j : Nat) (y : Rule), s.cfg.rules[j]? = some (some y) → ¬ met y) → found = (.standard, none)) ∧
    (s.flows.entries.length < 1024 → ∃ t, exec (.upstreamFrame m frame) s = .next t ∧
      t.flows.entries = insertEntry s.flows.entries (lowestFree 0 s.flows.entries) new ∧
      (s.flows.Holds → ∃ i, i < 1024 ∧ entryAt s.flows.entries i = none ∧ (∀ j, j < i → (entryAt s.flows.entries j).isSome) ∧
        ∀ j, entryAt t.flows.entries j = if j = i then some new else entryAt s.flows.entries j) ∧
      t.flows.counts = s.flows.counts.put placed.assigned (s.flows.counts.get placed.assigned + 1) ∧
      t.flows.counters = { s.flows.counters with creations := min 65535 (s.flows.counters.creations + 1) } ∧
      (placed.assigned = some .fibre → s.links.f = true → t.wire = s.wire ++ [(.f, frame)])) ∧
    (s.flows.Holds → s.flows.entries.length = 1024 → ∀ i v, (i, v) ∈ s.flows.entries → ¬ fixed v →
      (∀ q ∈ s.flows.entries, fixed q.2 ∨ age q.2 < age v ∨ (age q.2 = age v ∧ i ≤ q.1)) →
      let freed := s.flows.counts.put v.assigned (s.flows.counts.get v.assigned - 1)
      ∃ t, exec (.upstreamFrame m frame) s = .next t ∧
        t.flows.entries = replaceEntry s.flows.entries i new ∧
        t.flows.counts = freed.put placed.assigned (freed.get placed.assigned + 1) ∧
        t.flows.counters = { s.flows.counters with
          creations := min 65535 (s.flows.counters.creations + 1), evictions := min 65535 (s.flows.counters.evictions + 1) }) ∧
    (1024 ≤ s.flows.entries.length → (∀ q ∈ s.flows.entries, fixed q.2) → s.deliveries = [] →
      let refused : FlowTable :=
        { s.flows with counters := { s.flows.counters with refusals := min 65535 (s.flows.counters.refusals + 1) } }
      let full : Notice := ⟨.tableFull, 0, 0, 1, s.flows.entries.countP (fun q => q.2.trafficClass == .voice),
        s.flows.entries.countP (fun q => q.2.trafficClass != .voice && q.2.pin.isSome), classCode found.1, 0⟩
      (s.selector.carrier = .fibre → ∃ t, exec (.upstreamFrame m frame) s = .next t ∧
        OnlyExchange { b with flows := refused, wire := sent } t ∧
        (s.flows.counters.refusals ≠ 0 ∨ s.running = false → t = { b with flows := refused, wire := sent }) ∧
        (s.flows.counters.refusals = 0 → s.running = true → m.failing = none → memoryWf s.memory = true → b.unread < 128 →
          readBytes t.memory (t.area (noticeOffset (s.exchange.writeCount.toNat % 128))) 28 = full.bytes b.now ∧
          t.exchange = { s.exchange with writeCount := s.exchange.writeCount + 1 } ∧
          t.regs = { s.regs with cause := s.regs.cause ||| 2 })) ∧
      ∀ r : Radio, s.selector.carrier = r.uplink → ∃ t, exec (.upstreamFrame m frame) s = .next t ∧
        t.flows = (if s.admits .standard r then refused else { refused with shed := shed }))) ∧
  (keyOf (lessFcs frame) = none → s.deliveries = [] →
    let unkeyed : FlowTable :=
      { s.flows with counters := { s.flows.counters with unkeyed := min 65535 (s.flows.counters.unkeyed + 1) } }
    (s.selector.carrier = .fibre → exec (.upstreamFrame m frame) s = .next { b with flows := unkeyed, wire := sent }) ∧
    ∀ r : Radio, s.selector.carrier = r.uplink →
      (s.admits .standard r = false →
        exec (.upstreamFrame m frame) s = .next { b with flows := { unkeyed with shed := shed } }) ∧
      (s.admits .standard r = true → (s.links.get r.port = false ∨ s.cfg.records.get r.uplink = none) →
        exec (.upstreamFrame m frame) s = .next { b with flows := unkeyed }) ∧
      ∃ t, exec (.upstreamFrame m frame) s = .next t ∧
        t.flows = (if s.admits .standard r then unkeyed else { unkeyed with shed := shed }))

/-- UPSTREAM_FRAME of a flow assigned to a radio that can send. The policer judges the frame by its on-air length n (R10, R157) at the class's
own ceiling in OWN mode, in FOLLOW mode at the lead ceiling of the radio's allowance tier (R156): with a ceiling of 0 it passes and the
bucket is not read; else the bucket is credited for the whole milliseconds since its last credit, up to its depth, and 8 × n tokens are
taken, or the frame is dropped and counted, with no wire, sequence or meter changed. A frame that passes leaves as one carry datagram, or,
above the link limit, as two of one sequence, the first as long as the limit (R8 to R10); each is deducted in turn (R148). The outer IP,
UDP and carry headers are those of R8 and R187, byte by byte; the two low bits of the service byte are log entry 10, and an odd last byte
under the UDP checksum is log entry 42. -/
def Obligations.UpstreamFrameLeavesWrappedOnARadio : Prop := ∀ (s : State) (m : Moment) (frame : List Byte) (k : FlowKey) (i : Nat)
    (e : FlowEntry) (r : Radio) (c : AddressRecord),
  s.phase = .steering → s.links.lan = true → fcsRight frame = true → 64 ≤ frame.length → frame.length ≤ 1518 →
  keyOf (lessFcs frame) = some k → entryOfKey s.flows.entries k = some (i, e) → e.assigned = some r.uplink →
  s.links.get r.port = true → s.cfg.records.get r.uplink = some c →
  let b := s.begin m
  let inner := lessFcs frame
  let limit := s.cfg.linkLimits.get r
  let whole := inner.length + overhead c.version
  let n := if limit < whole then inner.length + 2 * overhead c.version else whole
  let service := 4 * frameDscp inner + (Config.outerEcn inner).toNat
  let outer := fun payload : List Byte =>
    let n := 8 + payload.length
    let udp := fun sum : Nat => beBytes 2 c.localPort.toNat ++ beBytes 2 c.remotePort.toNat ++ beBytes 2 n ++ beBytes 2 sum
    let addresses := wireAddress c.version c.localAddress ++ wireAddress c.version c.remoteAddress
    let head := fun sum : Nat =>
      [0x45] ++ beBytes 1 service ++ beBytes 2 (20 + n) ++ [0, 0, 0x40, 0, 64, 17] ++ beBytes 2 sum ++ addresses
    match c.version with
    | .v4 => head (checksum (head 0)) ++ udp 0 ++ payload
    | .v6 => beBytes 4 (0x60000000 + 0x100000 * (service % 256)) ++ beBytes 2 n ++ [17, 64] ++ addresses ++
        udp (checksum (addresses ++ beBytes 2 17 ++ beBytes 4 n ++ udp 0 ++ payload)) ++ payload
  let datagram := fun (part : Nat) (piece : List Byte) => outer ([0x11, BitVec.ofNat 8 (radioCode r),
    BitVec.ofNat 8 (classCode e.trafficClass), BitVec.ofNat 8 part] ++ beBytes 4 (s.framer r).sequence.toNat ++
    beBytes 4 s.cfg.siteId.toNat ++ [0, 0, 0, 0] ++ piece)
  let first := datagram 1 (inner.take (limit - overhead c.version))
  let second := datagram 2 (inner.drop (limit - overhead c.version))
  let datagrams := if limit < whole then [first, second] else [datagram 0 inner]
  let ceiling := match (s.cfg.classes.get e.trafficClass).mode, (s.meter r).tier with
    | .own, _ => (s.cfg.classes.get e.trafficClass).ownCeiling
    | .follow, .normal => s.cfg.lead.normal
    | .follow, .lean => s.cfg.lead.lean
    | .follow, .scarce => s.cfg.lead.scarce
    | .follow, .spent => s.cfg.lead.spent
  let bucket := s.policer.buckets.get e.trafficClass
  let tokens := min (8 * (s.cfg.classes.get e.trafficClass).burst) (bucket.tokens + (b.now - bucket.lastCredit).toNat * ceiling)
  let charged := fun (x : Meter) (d : List Byte) => (⟨x.remaining - d.length, min (2 ^ 48 - 1) (x.used + d.length),
    if x.remaining < d.length then min (2 ^ 48 - 1) (x.overage + (d.length - x.remaining)) else x.overage,
    tierOf (s.cfg.meters.get r) (x.remaining - d.length)⟩ : Meter)
  let touched := fun t : State => t.flows = { s.flows with entries := (replaceEntry s.flows.entries i
    { e with lastSeen := b.now, upBytes := e.upBytes + BitVec.ofNat 64 frame.length }) }
  let sent := fun t : State =>
    t.wire = s.wire ++ datagrams.map (fun d => (r.port, outerFrame r.port c d)) ∧
    t.framer r = { s.framer r with sequence := (s.framer r).sequence + 1 } ∧ t.framer r.other = s.framer r.other ∧
    t.meter r = datagrams.foldl charged (s.meter r) ∧ t.meter r.other = s.meter r.other ∧ touched t
  let credited := fun (x : Nat) (policed : Nat) =>
    { s.policer with buckets := s.policer.buckets.set e.trafficClass ⟨x, b.now, policed⟩ }
  (ceiling = 0 → ∃ t, exec (.upstreamFrame m frame) s = .next t ∧ sent t ∧ t.policer = s.policer) ∧
  (ceiling ≠ 0 → 8 * n ≤ tokens → ∃ t, exec (.upstreamFrame m frame) s = .next t ∧ sent t ∧
    t.policer = credited (tokens - 8 * n) bucket.policed) ∧
  (ceiling ≠ 0 → tokens < 8 * n → ∃ t, exec (.upstreamFrame m frame) s = .next t ∧ touched t ∧ t.wire = s.wire ∧
    t.framers = s.framers ∧ t.meters = s.meters ∧ t.policer = credited tokens (min 65535 (bucket.policed + 1))) ∧
  (datagram 0 inner).length = whole ∧
  (1280 ≤ limit → limit < whole → first.length = limit ∧ second.length = n - limit)

/-- RADIO_FRAME_RECEIVED: a bad frame is discarded uncounted, one that is not IP is a carry discard, and every IP datagram is deducted
before it is checked (R12, R148), with the ALLOWANCE_TIER notice of a tier that changes (R149). A datagram that fails a check of R12 or R13
counts a carry discard and reaches nothing. A whole FRAME goes, after the lookup, padded and with a fresh FCS, to the LAN (R13, R14). A part
is a duplicate, joins its held partner in the order of the parts, takes a free slot, or takes the oldest part's (R15). An echo is matched
(R58). The other radio's meter and framer are left alone. Where the manual leaves a length or a byte open the statement takes the model's
choice: a VLAN-tagged frame is not IP (log entry 46), a datagram is of the version its Ethernet type names (47), padding bytes (log entries
11 and 13), the UDP length (14), a header that states no length (40), the IP header's length (41), an odd last byte under the UDP checksum
(42). -/
def Obligations.RadioDatagramIsDeductedBeforeItIsChecked : Prop := ∀ (s : State) (m : Moment) (r : Radio) (frame : List Byte),
  s.phase = .steering → s.links.get r.port = true → s.deliveries = [] →
  ((fcsRight frame = false ∨ 1518 < frame.length) → exec (.radioFrameReceived m r frame) s = .next (s.begin m)) ∧
  (fcsRight frame = true → frame.length ≤ 1518 → etherVersion (lessFcs frame) = none →
    exec (.radioFrameReceived m r frame) s = .next { s.begin m with
      framers := s.framers.set r { s.framer r with carryDiscards := min 65535 ((s.framer r).carryDiscards + 1) } }) ∧
  ∀ v, fcsRight frame = true → frame.length ≤ 1518 → etherVersion (lessFcs frame) = some v →
    let b := s.begin m
    let f := s.framer r
    let ip := etherPayload (lessFcs frame)
    let n := match v with
      | .v4 => if ip.length < 4 ∨ ip.length + 4 < beAt ip 2 2 then ip.length else beAt ip 2 2
      | .v6 => if ip.length < 6 ∨ ip.length + 4 < 40 + beAt ip 4 2 then ip.length else 40 + beAt ip 4 2
    let held := fun (t : State) (x : List HeldPart) (more : Nat) =>
      t.framer r = { f with held := x, reassemblyDiscards := min 65535 (f.reassemblyDiscards + more) }
    let nowhere := fun t : State => t.wire = s.wire ∧ t.flows = s.flows ∧ t.probers = s.probers ∧ t.judges = s.judges
    let discarded := fun t : State => t.framer r = { f with carryDiscards := min 65535 (f.carryDiscards + 1) } ∧ nowhere t
    let released := fun (t : State) (inner : List Byte) =>
      t.flows = s.flows.seenDown b.now inner (max 60 inner.length + 4) ∧
      t.wire = (if s.links.lan then s.wire ++ [(.lan, withFcs (padTo60 inner))] else s.wire) ∧ t.probers = s.probers
    ∃ t, exec (.radioFrameReceived m r frame) s = .next t ∧
      (t.meter r).remaining = (s.meter r).remaining - n ∧
      (t.meter r).used = min (2 ^ 48 - 1) ((s.meter r).used + n) ∧
      (t.meter r).overage = (if (s.meter r).remaining < n then min (2 ^ 48 - 1) ((s.meter r).overage + (n - (s.meter r).remaining))
        else (s.meter r).overage) ∧
      (t.meter r).tier = tierOf (s.cfg.meters.get r) ((s.meter r).remaining - n) ∧
      (Undisturbed s m → b.unread < 128 → (t.meter r).tier ≠ (s.meter r).tier → t.noted s.exchange.writeCount.toNat
        ⟨.allowanceTier, radioCode r, allowanceTierCode (s.meter r).tier, allowanceTierCode (t.meter r).tier,
          min (((s.meter r).remaining - n) / 1024) (2 ^ 32 - 1), (s.cfg.meters.get r).allowance / 1024, 1, n⟩ b.now) ∧
      t.meter r.other = s.meter r.other ∧ t.framer r.other = s.framer r.other ∧ t.cfg = s.cfg ∧
      ((∀ c p, s.cfg.records.get r.uplink = some c → Carries c v ip p → ¬ Checksummed v ip p) → discarded t) ∧
      ∀ c h inner, s.cfg.records.get r.uplink = some c → Carries c v ip (CarryHeader.bytes h ++ inner) →
        Checksummed v ip (h.bytes ++ inner) → h.Fits →
        let ours := h.version = 1 ∧ h.siteId = s.cfg.siteId ∧ h.path = radioCode r
        let part : SplitPart := if h.part = 1 then .first else .second
        let same := fun y : HeldPart => y.sequence == h.sequence && y.part == part
        let partner := fun y : HeldPart => y.sequence == h.sequence && y.part != part
        let new : HeldPart := ⟨h.sequence, part, inner, b.now⟩
        (¬ ours ∨ (h.kind ≠ 1 ∧ h.kind ≠ 3) ∨ (h.kind = 1 ∧ 3 ≤ h.part) ∨
          (h.kind = 1 ∧ h.part = 0 ∧ (inner.length < 14 ∨ 1514 < inner.length)) → discarded t) ∧
        (ours → h.kind = 1 → h.part = 0 → 14 ≤ inner.length → inner.length ≤ 1514 → released t inner ∧ t.framer r = f) ∧
        (ours → h.kind = 1 → h.part = 1 ∨ h.part = 2 →
          (f.held.any same = true → t.framer r = { f with reassemblyDiscards := min 65535 (f.reassemblyDiscards + 1) } ∧ nowhere t) ∧
          (f.held.any same = false → ∀ y, f.held.find? partner = some y →
            let joined := if h.part = 1 then inner ++ y.inner else y.inner ++ inner
            let rest := f.held.filter (fun x => !partner x)
            (14 ≤ joined.length ∧ joined.length ≤ 1514 → t.framer r = { f with held := rest } ∧ released t joined) ∧
            (joined.length < 14 ∨ 1514 < joined.length → held t rest 1 ∧ nowhere t)) ∧
          (f.held.any same = false → f.held.any partner = false →
            (f.held.length < 4 → t.framer r = { f with held := f.held ++ [new] } ∧ nowhere t) ∧
            (4 ≤ f.held.length → held t (f.held.tail ++ [new]) 1 ∧ nowhere t))) ∧
        (ours → h.kind = 3 → EchoMatched s b t r.uplink h.probeSeq h.nonce ∧ t.framer r = f)

/-- FIBRE_FRAME_RECEIVED (R17): a bad frame is discarded; a frame that is no echo goes to the LAN unchanged after the lookup; an echo of the
record, whatever its checksums, is taken out and matched (R58). What R17 lists no test for is log entries 14, 41 and 47. -/
def Obligations.FibreFrameReachesTheLanUnchanged : Prop := ∀ (s : State) (m : Moment) (frame : List Byte),
  s.phase = .steering → s.links.f = true → s.deliveries = [] →
  ((fcsRight frame = false ∨ 1518 < frame.length) → exec (.fibreFrameReceived m frame) s = .next (s.begin m)) ∧
  (s.fibreEcho (lessFcs frame) = none ↔ ∀ h, ¬ s.EchoOnFibre (lessFcs frame) h) ∧
  (fcsRight frame = true → frame.length ≤ 1518 → s.fibreEcho (lessFcs frame) = none →
    exec (.fibreFrameReceived m frame) s = .next
      { s.begin m with
        flows := s.flows.seenDown (s.begin m).now (lessFcs frame) frame.length
        wire := if s.links.lan then s.wire ++ [(.lan, frame)] else s.wire }) ∧
  (fcsRight frame = true → frame.length ≤ 1518 → ∀ h, s.EchoOnFibre (lessFcs frame) h →
    ∃ t, exec (.fibreFrameReceived m frame) s = .next t ∧
      EchoMatched s (s.begin m) t .fibre h.probeSeq h.nonce ∧ Steady (s.begin m) t)

/-- PART_EXPIRY: a held part whose 250 ms are over is discarded and counted, and one whose time is not come, or that is gone, stays as it
is; nothing else changes. -/
def Obligations.HeldPartExpiresAfterItsTime : Prop := ∀ (s : State) (m : Moment) (r : Radio) (sequence : Word) (part : SplitPart),
  s.phase = .steering → s.deliveries = [] →
  let f := s.framer r
  let due := ∃ h ∈ f.held, h.sequence = sequence ∧ h.part = part ∧ ((s.begin m).now - (h.arrived + 250)).toNat < 2 ^ 31
  (due → exec (.partExpiry m r sequence part) s = .next ((s.begin m).setFramer r
    { f with
      held := f.held.filter (fun h => !(h.sequence == sequence && h.part == part))
      reassemblyDiscards := min 65535 (f.reassemblyDiscards + 1) })) ∧
  (¬ due → exec (.partExpiry m r sequence part) s = .next (s.begin m))

/-! ## Site conditions -/

/-- RAW_LEVEL_CHANGE: with a filter time, a change away from the filtered level is recorded, due after the filter time, and a change back
removes the pending change; with filter time 0 the filtered level changes at once and is delivered to the block that acts on it (R20,
R22, R23). A level that is no change does nothing, and outside steering only the pin's level is new. -/
def Obligations.RawLevelChangeStartsOrRemovesAPendingChange : Prop := ∀ (s : State) (m : Moment) (i : Input) (level : Bool),
  s.deliveries = [] →
  let raised : Conditions := { s.conditions with raw := s.conditions.raw.set i level }
  (s.conditions.raw.get i = level → exec (.rawLevelChange m i level) s = .next (s.begin m)) ∧
  (s.conditions.raw.get i ≠ level → s.phase ≠ .steering →
    exec (.rawLevelChange m i level) s = .next { s.begin m with conditions := raised }) ∧
  (s.conditions.raw.get i ≠ level → s.phase = .steering →
    (s.conditions.changes.get i = none → s.conditions.filtered.get i ≠ level → 0 < s.cfg.watch.filters.get i →
      exec (.rawLevelChange m i level) s = .next { s.begin m with
        conditions := { raised with
          changes := s.conditions.changes.set i (some ((s.begin m).now + BitVec.ofNat 32 (s.cfg.watch.filters.get i))) } }) ∧
    (∀ w, s.conditions.changes.get i = some w → s.conditions.filtered.get i = level →
      exec (.rawLevelChange m i level) s = .next { s.begin m with
        conditions := { raised with changes := s.conditions.changes.set i none } }) ∧
    (s.conditions.changes.get i = none → s.conditions.filtered.get i ≠ level → s.cfg.watch.filters.get i = 0 →
      ∃ t, exec (.rawLevelChange m i level) s = .next t ∧ t.conditions.filtered = s.conditions.filtered.set i level ∧
        t.conditions.raw = s.conditions.raw.set i level ∧ t.conditions.changes = s.conditions.changes ∧
        (s.undrained → LevelDelivered s (s.begin m) t i level)))

/-- PENDING_CHANGE_DUE: the filtered level takes the other value, the pending change is gone, conformity is worked out anew from mask and
pattern, and every other level, pending change and pin stays. A change of C0 or C1 derives the power tier by the table of R29, and any other
leaves the tier alone; POWER_TIER and WATCH_ALERT are raised (R27, R30), in that order (log entry 3). OPTICAL_LOSS, READY and line-idle are
delivered to the blocks that act on them (R22, R23, R38, R40, R78, R81). On entry into RESERVE with two radios out of OFF and not draining,
one is kept: the carrier, else the greater count, the higher bias, RADIO_A; the other's WARM no longer waits, and it goes OFF when it has no
entry, else it drains (R47). At every other change, and where there is one such radio, none is drained. -/
def Obligations.PendingChangeReachesTheFilteredLevel : Prop := ∀ (s : State) (m : Moment) (i : Input) (due : Word),
  s.phase = .steering → s.conditions.changes.get i = some due → reached (s.begin m).now due = true →
  let candidate := fun (x : State) (r : Radio) => (x.radio r).state ≠ .off ∧ (x.radio r).draining = false
  let keeps := fun r : Radio => s.selector.carrier = r.uplink ∨ s.selector.carrier ≠ r.other.uplink ∧
    (s.radioCount r.other < s.radioCount r ∨
      s.radioCount r.other = s.radioCount r ∧ (s.bias r.other < s.bias r ∨ s.bias r.other = s.bias r ∧ r = .a))
  ∃ t, exec (.pendingChangeDue m i) s = .next t ∧
    t.conditions.filtered = s.conditions.filtered.set i (!s.conditions.filtered.get i) ∧
    t.conditions.changes = s.conditions.changes.set i none ∧ t.conditions.raw = s.conditions.raw ∧
    t.conditions.conforming = decide ((inputBits t.conditions.filtered ^^^ s.cfg.watch.pattern) &&& s.cfg.watch.mask = 0) ∧
    t.conditions.powerTier =
      (if i = .mainsPresent ∨ i = .batteryLow then
        match t.conditions.filtered.mainsPresent, t.conditions.filtered.batteryLow with
        | true, false => .mains
        | true, true => .mains
        | false, false => .battery
        | false, true => .reserve
      else s.conditions.powerTier) ∧
    t.cfg = s.cfg ∧ t.flows = s.flows ∧ t.meters = s.meters ∧ t.wire = s.wire ∧
    (s.undrained → s.deliveries = [] → LevelDelivered s (s.begin m) t i (!s.conditions.filtered.get i)) ∧
    (Undisturbed s m →
      let b := s.begin m
      let moved := if t.conditions.powerTier = s.conditions.powerTier then 0 else 1
      let before := inputBits s.conditions.filtered
      let levels := inputBits t.conditions.filtered
      (t.conditions.powerTier ≠ s.conditions.powerTier → b.unread < 128 → t.noted s.exchange.writeCount.toNat
        ⟨.powerTier, inputCode i, powerTierCode s.conditions.powerTier, powerTierCode t.conditions.powerTier, levels.toNat, 0, 0, 0⟩ b.now) ∧
      (s.conditions.conforming = true → t.conditions.conforming = false → b.unread + moved < 128 →
        t.noted (s.exchange.writeCount.toNat + moved) ⟨.watchAlert, inputCode i, before.toNat, levels.toNat, s.cfg.watch.mask.toNat,
          s.cfg.watch.pattern.toNat, ((levels ^^^ s.cfg.watch.pattern) &&& s.cfg.watch.mask).toNat, 0⟩ b.now)) ∧
    let enters := s.conditions.powerTier ≠ .reserve ∧ t.conditions.powerTier = .reserve
    (∀ r, candidate s r → (¬ enters ∨ ¬ candidate s r.other ∨ keeps r) → candidate t r) ∧
    ∀ r, enters → candidate s r → candidate s r.other → keeps r.other →
      t.inFlightOf (.warm r) = none ∧
      (s.radioCount r = 0 → (t.radio r).state = .off ∧ (t.radio r).powerOutput = false ∧ (t.radio r).draining = false) ∧
      (0 < s.radioCount r → (t.radio r).state ≠ .off ∧ (t.radio r).draining = true)

/-! ## Radio timers -/

/-- WARM_MIN_RUNOUT: the timer stops; a WARMING radio whose READY is asserted becomes ready, with attach_limit stopped, its probe timer due
at once and its judgement void (R38); RADIO_STATE says so with cause READY (R48), first of the notices of the step (log entry 3), and a WARM
that waits is answered DONE with the new state and the warm-up time (R42), the milliseconds since power-on, stopping at 2^31 − 1. Any other
radio only stops the timer. -/
def Obligations.WarmMinRunoutLetsAReadyRadioIn : Prop := ∀ (s : State) (m : Moment) (r : Radio) (due : Word),
  s.phase = .steering → (s.radio r).warmMin = some due → reached (s.begin m).now due = true →
  let b := s.begin m
  let new := if s.selector.carrier = r.uplink ∨ 0 < s.radioCount r then RadioState.carrying else .standby
  (s.readyLevel r = match r with
    | .a => s.conditions.filtered.radioAReady
    | .b => s.conditions.filtered.radioBReady) ∧
  (∀ since, (s.radio r).poweredAt = some since → (s.radio r).poweredWraps ≤ b.clock.wraps → b.poweredFor r =
    min (2 ^ 31 - 1) ((b.clock.wraps - (s.radio r).poweredWraps) * 2 ^ 32 + b.now.toNat - since.toNat)) ∧
  (((s.radio r).state ≠ .warming ∨ s.readyLevel r = false) → s.deliveries = [] →
    exec (.warmMinRunout m r) s = .next (b.setRadio r { s.radio r with warmMin := none })) ∧
  ((s.radio r).state = .warming → s.readyLevel r = true → s.undrained →
    ∃ t, exec (.warmMinRunout m r) s = .next t ∧ Readied s b t r ∧
      (Undisturbed s m → b.unread < 128 → t.noted s.exchange.writeCount.toNat
        ⟨.radioState, radioCode r, radioStateCode .warming, radioStateCode new, 0, 3, s.radioCount r, 0⟩ b.now) ∧
      (∀ f, Undisturbed s m → Awaited s m r f → t.inFlightOf (.warm r) = none ∧
        Answered t ⟨f.slot, f.tag⟩ .done [bytesWord (radioCode r) (radioStateCode new) 0 0, word (b.poweredFor r)]))

/-- ATTACH_LIMIT_RUNOUT on a WARMING radio (R39): with no assigned entry and not the carrier it goes OFF and waits out retry_wait; otherwise
its power stays on and attach_limit starts again. RADIO_STATE with cause ATTACH_FAILED is raised in the first case only, WARM_FAILED in both,
after it and after the VERDICT notice of a verdict other than UNKNOWN (R48, R49); a WARM that waits is answered DONE with the state after the
failure and the failure flag. That the answer comes between the two notices is log entry 39, that VERDICT does log entry 3. -/
def Obligations.AttachFailureEndsOrProlongsTheWarmUp : Prop := ∀ (s : State) (m : Moment) (r : Radio) (due : Word),
  s.phase = .steering → (s.radio r).state = .warming → (s.radio r).attachLimit = some due → reached (s.begin m).now due = true →
  s.undrained →
  let b := s.begin m
  let at' := s.exchange.writeCount.toNat
  let retry := b.after ((s.cfg.timers.get r).retryWait * 1000)
  let warmFailed := fun (new : RadioState) (kept due' waited : Nat) => (⟨.warmFailed, radioCode r, radioStateCode .warming,
    radioStateCode new, kept, b.poweredFor r, due', waited⟩ : Notice)
  let answered := fun (t : State) (f : InFlight) (new : RadioState) => t.inFlightOf (.warm r) = none ∧
    Answered t ⟨f.slot, f.tag⟩ .done [bytesWord (radioCode r) (radioStateCode new) 0 1, word (b.poweredFor r)]
  (s.radioCount r = 0 → s.selector.carrier ≠ r.uplink → ∃ t, exec (.attachLimitRunout m r) s = .next t ∧
    t.radio r = { s.radio r with
      state := .off, draining := false, warmMin := none, attachLimit := none, coolHold := none, retryWait := some retry } ∧
    (t.radio r).powerOutput = false ∧ (t.judge r.uplink).verdict = .unknown ∧ (t.judge r.uplink).window = [] ∧
    (Undisturbed s m →
      let verdicts := if (s.judge r.uplink).verdict = .unknown then 0 else 1
      (b.unread < 128 → t.noted at' ⟨.radioState, radioCode r, radioStateCode .warming, radioStateCode .off, 0, 5, 0, 0⟩ b.now) ∧
      (b.unread + verdicts < 127 →
        (s.inFlightOf (.warm r) = none → t.noted (at' + 1 + verdicts) (warmFailed .off 0 retry.toNat 0) b.now) ∧
        (∀ f, Awaited s m r f → t.noted (at' + 1 + verdicts) (warmFailed .off 0 retry.toNat 1) b.now)) ∧
      ∀ f, Awaited s m r f → answered t f .off)) ∧
  ((0 < s.radioCount r ∨ s.selector.carrier = r.uplink) → ∃ t, exec (.attachLimitRunout m r) s = .next t ∧
    t.radio r = { s.radio r with attachLimit := some (b.after ((s.cfg.timers.get r).attachLimit * 1000)) } ∧
    (t.radio r).powerOutput = true ∧
    (Undisturbed s m →
      (b.unread < 128 →
        (s.inFlightOf (.warm r) = none → Recorded { b with radios := t.radios } t (warmFailed .warming 1 0 0)) ∧
        (∀ f, Awaited s m r f → t.noted at' (warmFailed .warming 1 0 1) b.now)) ∧
      ∀ f, Awaited s m r f → answered t f .warming))

/-- RETRY_WAIT_RUNOUT and COOL_HOLD_RUNOUT: the timer stops. An OFF radio in WARM policy that the RESERVE limit does not hold back is warmed
at the end of retry_wait; a STANDBY radio with no assigned entry that is not the carrier goes OFF at the end of cool_hold; RADIO_STATE
says so with cause POLICY_WARM or COOL_HOLD (R48), first of the notices of the step (log entry 3). -/
def Obligations.RetryWaitAndCoolHoldRunOut : Prop := ∀ (s : State) (m : Moment) (r : Radio) (due : Word),
  s.phase = .steering → reached (s.begin m).now due = true →
  let b := s.begin m
  (s.limitRefuses r = true ↔ s.conditions.powerTier = .reserve ∧ (s.radio r.other).state ≠ .off ∧ (s.radio r.other).draining = false) ∧
  ((s.radio r).retryWait = some due →
    (((s.radio r).state ≠ .off ∨ (s.cfg.timers.get r).policy = .cold ∨ s.limitRefuses r = true) → s.deliveries = [] →
      exec (.retryWaitRunout m r) s = .next (b.setRadio r { s.radio r with retryWait := none })) ∧
    ((s.radio r).state = .off → (s.cfg.timers.get r).policy = .warm → s.limitRefuses r = false → s.undrained →
      ∃ t, exec (.retryWaitRunout m r) s = .next t ∧
        t.radio r = { s.radio r with
          state := .warming, draining := false, poweredAt := some b.now, poweredWraps := b.clock.wraps
          warmMin := some (b.after ((s.cfg.timers.get r).warmMin * 1000))
          attachLimit := some (b.after ((s.cfg.timers.get r).attachLimit * 1000)), retryWait := none } ∧
        (t.radio r).powerOutput = true ∧ t.judges.fibre = s.judges.fibre ∧ t.probers = s.probers ∧
        (Undisturbed s m → b.unread < 128 → t.noted s.exchange.writeCount.toNat
          ⟨.radioState, radioCode r, radioStateCode .off, radioStateCode .warming, 0, 2, s.radioCount r, 0⟩ b.now))) ∧
  ((s.radio r).coolHold = some due →
    (((s.radio r).state ≠ .standby ∨ 0 < s.radioCount r ∨ s.selector.carrier = r.uplink) → s.deliveries = [] →
      exec (.coolHoldRunout m r) s = .next (b.setRadio r { s.radio r with coolHold := none })) ∧
    ((s.radio r).state = .standby → s.radioCount r = 0 → s.selector.carrier = .fibre → s.usable .fibre = true →
      s.selector.stranded = false → s.undrained → s.deliveries = [] →
      ∃ t, exec (.coolHoldRunout m r) s = .next t ∧
        t.radio r = { s.radio r with state := .off, draining := false, warmMin := none, attachLimit := none, coolHold := none } ∧
        (t.radio r).powerOutput = false ∧ (t.prober r.uplink).outstanding = [] ∧ (t.judge r.uplink).verdict = .unknown ∧
        t.radio r.other = s.radio r.other ∧ t.selector = s.selector ∧
        (Undisturbed s m → b.unread < 128 → t.noted s.exchange.writeCount.toNat
          ⟨.radioState, radioCode r, radioStateCode .standby, radioStateCode .off, 0, 7, 0, 0⟩ b.now)))

/-! ## Probing -/

/-- PROBE_TIMER_RUNOUT. FIBRE is eligible while its link is UP and its record configured; a radio while its port link is UP, its record
configured, it is ready, and its tier is not SPENT or it is CARRYING (R53). An uplink that is not eligible is sent nothing; an eligible one is
sent one probe with the next probe sequence, which joins the list; of a full list the oldest entry is first resolved LOST (R56), its
outcome handed to the Judge. Either way the timer is armed again by the table of R54: the carrying interval for FIBRE, a CARRYING radio
and a verdict UNKNOWN or FAILED; else the standby interval times 1, 2 or 4 by the power tier. That the radio's state is read before the
evaluation which that outcome causes is log entry 45; the two low bits of the service byte are log entry 10. -/
def Obligations.ProbeTimerRunoutSendsOneProbe : Prop := ∀ (s : State) (m : Moment) (u : Uplink) (due : Word),
  s.phase = .steering → (s.prober u).timer = some due → reached (s.begin m).now due = true → s.deliveries = [] →
  let b := s.begin m
  let p := s.prober u
  let i := s.cfg.probes.get u
  let eligible := s.links.get u.port = true ∧ (s.cfg.records.get u).isSome = true ∧ ∀ r : Radio, u = r.uplink →
    ((s.radio r).state = .standby ∨ (s.radio r).state = .carrying) ∧ ((s.meter r).tier ≠ .spent ∨ (s.radio r).state = .carrying)
  let carrying := u = .fibre ∨ (u = .radioA ∧ (s.radio .a).state = .carrying) ∨ (u = .radioB ∧ (s.radio .b).state = .carrying)
  let again := fun v : Verdict => some (b.after (if carrying ∨ v = .unknown ∨ v = .failed then i.carrying
    else i.standby * (match s.conditions.powerTier with
      | .mains => 1
      | .battery => 2
      | .reserve => 4)))
  let carrySequence := match u with
    | .fibre => 0
    | .radioA => (s.framer .a).sequence
    | .radioB => (s.framer .b).sequence
  let probe : Outstanding := ⟨p.sequence, b.clock.micros.setWidth 16, b.clock.micros,
    b.clock.micros + BitVec.ofNat 32 (i.timeout * 1000), false⟩
  let datagram := fun c : AddressRecord => outerDatagram c (Config.outerEcn []).toNat
    (probeHeader u carrySequence s.cfg.siteId p.sequence (b.clock.micros.setWidth 16)).bytes
  let sent := fun (t : State) (c : AddressRecord) =>
    t.wire = s.wire ++ [(u.port, outerFrame u.port c (datagram c))] ∧ t.flows = s.flows ∧ (∀ v, v ≠ u → t.prober v = s.prober v) ∧
    ∀ r : Radio, (u = r.uplink → t.framer r = { s.framer r with sequence := (s.framer r).sequence + 1 } ∧
      (t.meter r).remaining = (s.meter r).remaining - (datagram c).length) ∧
      (u ≠ r.uplink → t.framer r = s.framer r ∧ t.meter r = s.meter r)
  (¬ eligible → exec (.probeTimerRunout m u) s = .next (b.setProber u { p with timer := again (s.judge u).verdict })) ∧
  (eligible → ∀ c, s.cfg.records.get u = some c → p.outstanding.length < 8 → ∃ t, exec (.probeTimerRunout m u) s = .next t ∧
    t.prober u = { p with
      timer := again (s.judge u).verdict
      sequence := p.sequence + 1
      outstanding := p.outstanding ++ [probe]
      counters := { p.counters with sent := min 65535 (p.counters.sent + 1) } } ∧
    sent t c ∧ t.judges = s.judges ∧ t.radios = s.radios) ∧
  (eligible → ∀ c e rest, s.cfg.records.get u = some c → p.outstanding = e :: rest → 7 ≤ rest.length → s.undrained →
    let left := rest.filter (fun x => x.sequence != e.sequence)
    ∃ t, exec (.probeTimerRunout m u) s = .next t ∧
      t.prober u = { p with
        timer := again (t.judge u).verdict
        sequence := p.sequence + 1
        outstanding := left ++ [probe]
        counters := { p.counters with lost := min 65535 (p.counters.lost + 1), sent := min 65535 (p.counters.sent + 1) }
        burst := (t.prober u).burst } ∧
      (p.burst = none → (t.prober u).burst = none) ∧
      (∀ x, p.burst = some x → BurstGoesOn s b t u left (if e.marked then { x with lost := x.lost + 1 } else x)) ∧
      sent t c ∧
      ((t.judge u).verdict ≠ .failed →
        (t.judge u).window = (if 32 ≤ (s.judge u).window.length then (s.judge u).window.tail else (s.judge u).window) ++ [.lost] ∧
        (t.judge u).srtt = (s.judge u).srtt ∧ (t.judge u).runAnswered = 0 ∧
        (t.judge u).runLost = min 32 ((s.judge u).runLost + 1)) ∧
      ∀ v, v ≠ u → t.judge v = { s.judge v with usable := (t.judge v).usable })



/-- PROBE_EXPIRY: an entry whose due time is reached in the microsecond count leaves the list and counts lost, and LOST joins the window;
an entry that is gone, or not yet due, is left as it is. A marked entry counts lost in its burst's tally; the burst goes on while a burst
probe is due or another marked entry is left, and else ends, answered DONE or CLAMPED with its tally (R65). -/
def Obligations.ProbeExpiryCountsLost : Prop := ∀ (s : State) (m : Moment) (u : Uplink) (sequence : BitVec 16),
  s.phase = .steering → s.deliveries = [] →
  ((s.prober u).entry sequence = none → exec (.probeExpiry m u sequence) s = .next (s.begin m)) ∧
  ∀ e, (s.prober u).entry sequence = some e →
    (reached (s.begin m).clock.micros e.due = false → exec (.probeExpiry m u sequence) s = .next (s.begin m)) ∧
    (reached (s.begin m).clock.micros e.due = true → s.undrained → ∃ t, exec (.probeExpiry m u sequence) s = .next t ∧
      (t.prober u).outstanding = (s.prober u).outstanding.filter (fun x => x.sequence != sequence) ∧
      (t.prober u).counters = { (s.prober u).counters with lost := min 65535 ((s.prober u).counters.lost + 1) } ∧
      (t.prober u).timer = (s.prober u).timer ∧ (t.prober u).sequence = (s.prober u).sequence ∧
      ((s.prober u).burst = none → (t.prober u).burst = none) ∧
      (∀ x, (s.prober u).burst = some x → BurstGoesOn s (s.begin m) t u ((s.prober u).outstanding.filter (fun y => y.sequence != sequence))
        (if e.marked then { x with lost := x.lost + 1 } else x)) ∧
      ((t.judge u).verdict ≠ .failed →
        (t.judge u).window = (if 32 ≤ (s.judge u).window.length then (s.judge u).window.tail else (s.judge u).window) ++ [.lost] ∧
        (t.judge u).srtt = (s.judge u).srtt ∧ (t.judge u).runAnswered = 0 ∧
        (t.judge u).runLost = min 32 ((s.judge u).runLost + 1)) ∧
      (∀ v, v ≠ u → t.prober v = s.prober v ∧ t.judge v = { s.judge v with usable := (t.judge v).usable }))

/-! ## Judgement -/

/-- The smoothed delay (R72) and the runs (R73), whole: LOST leaves srtt; the sample is the RTT brought to 2,000,000; a void srtt becomes the
sample; else srtt moves by an eighth of the difference truncated toward zero, stays between its old value and the sample, and does
not move for less than 8 µs. A run counts the equal outcomes last seen and stops at 32; at most one run is nonzero. Then what the Judge
makes of an outcome: the verdict by the rows of R74 in their order, each srtt test false while srtt is void; on a failure an emptied
record, with the flap penalty from GOOD and POOR alone (R75, R82); else the merit of R76. No other uplink's record changes. -/
def Obligations.OutcomesMoveTheSmoothedDelayAndTheRuns : Prop := (∀ (j : Judgement) (rtt : Nat),
  ((j.observe .lost rtt).srtt = j.srtt ∧
    (j.srtt = none → (j.observe .answered rtt).srtt = some (min rtt 2000000)) ∧
    ∀ old, j.srtt = some old →
      let sample := min rtt 2000000
      ∃ new, (j.observe .answered rtt).srtt = some new ∧
        (new : Int) = old + ((sample : Int) - old).tdiv 8 ∧
        min old sample ≤ new ∧ new ≤ max old sample ∧ (old ≤ 2000000 → new ≤ 2000000) ∧
        (sample < old + 8 → old < sample + 8 → new = old)) ∧
  (j.observe .answered rtt).runAnswered = min 32 (j.runAnswered + 1) ∧ (j.observe .answered rtt).runLost = 0 ∧
  (j.observe .lost rtt).runLost = min 32 (j.runLost + 1) ∧ (j.observe .lost rtt).runAnswered = 0) ∧
  ∀ (s : State) (u : Uplink) (o : ProbeResult) (rtt : Nat),
    let t := s.takeOutcome u o rtt
    let p := s.cfg.judges.get u
    let old := s.judge u
    let j := old.observe o rtt
    let lost := j.window.countP (· == .lost)
    let limit := p.delayLimit * 1000
    let fails := p.failRun ≤ j.runLost ∨ p.failLoss ≤ lost
    let atMost := fun x : Nat => ∃ d, j.srtt = some d ∧ d ≤ x
    let above := fun x : Nat => ∃ d, j.srtt = some d ∧ x < d
    let recovers := p.recoverRun ≤ j.runAnswered ∧ (u = .fibre → s.links.f = true ∧ s.level .opticalLoss = false)
    let works := old.verdict = .good ∨ old.verdict = .poor
    let penalty := min 16000 (old.penalty + 1000)
    let becomes := fun v : Verdict => (t.judge u).verdict = v
    (fails → becomes .failed ∧ (t.judge u).window = [] ∧ (t.judge u).srtt = none ∧ (t.judge u).merit = none ∧
      (t.judge u).runAnswered = 0 ∧ (t.judge u).runLost = 0 ∧
      (works → (t.judge u).penalty = penalty ∧ (t.judge u).suppressed = (old.suppressed || decide (p.suppress ≤ penalty))) ∧
      (¬ works → (t.judge u).penalty = old.penalty ∧ (t.judge u).suppressed = old.suppressed)) ∧
    (¬ fails → (t.judge u).window = (if 32 ≤ old.window.length then old.window.tail else old.window) ++ [o] ∧
      (t.judge u).srtt = j.srtt ∧ (t.judge u).runAnswered = j.runAnswered ∧ (t.judge u).runLost = j.runLost ∧
      (t.judge u).penalty = old.penalty ∧ (t.judge u).suppressed = old.suppressed ∧
      (t.judge u).merit = some (1000 - lost * 600 / j.window.length -
        (match j.srtt with
          | none => 400
          | some d => min d (2 * limit) * 400 / (2 * limit))) ∧
      (old.verdict = .unknown ∨ old.verdict = .failed →
        (recovers → lost ≤ p.goodLoss ∧ atMost limit → becomes .good) ∧
        (recovers → ¬ (lost ≤ p.goodLoss ∧ atMost limit) → becomes .poor) ∧ (¬ recovers → becomes old.verdict)) ∧
      (old.verdict = .good →
        (p.goodLoss < lost ∨ above limit → becomes .poor) ∧ (¬ (p.goodLoss < lost ∨ above limit) → becomes .good)) ∧
      (old.verdict = .poor →
        (lost ≤ p.goodLoss ∧ atMost (limit - limit / 8) → becomes .good) ∧
        (¬ (lost ≤ p.goodLoss ∧ atMost (limit - limit / 8)) → becomes .poor))) ∧
    ∀ v, v ≠ u → t.judge v = s.judge v

/-- DECAY_TIMER_RUNOUT: the penalty falls by floor(penalty × D / 65536), and by 1 at least; the timer runs on exactly while a penalty is
left; suppression ends at the reuse level, with a SUPPRESSION notice of cause DECAY (R84, R91). A decay that leaves the suppressed flag as
it was changes nothing else in the part. -/
def Obligations.DecayLowersThePenalty : Prop := ∀ (s : State) (m : Moment) (u : Uplink) (due : Word),
  s.phase = .steering → (s.judge u).decayTimer = some due → reached (s.begin m).now due = true → s.deliveries = [] →
  let p := (s.judge u).penalty
  let left := p - max 1 (p * (s.cfg.judges.get u).decay / 65536)
  let timer := if left = 0 then none else some ((s.begin m).after 1000)
  (∃ t, exec (.decayTimerRunout m u) s = .next t ∧ (t.judge u).penalty = left ∧ (t.judge u).decayTimer = timer ∧
    (t.judge u).suppressed = ((s.judge u).suppressed && decide ((s.cfg.judges.get u).reuse < left)) ∧
    (∀ v, v ≠ u → (t.judge v).penalty = (s.judge v).penalty ∧ (t.judge v).suppressed = (s.judge v).suppressed) ∧
    ((s.judge u).suppressed = true → left ≤ (s.cfg.judges.get u).reuse → Undisturbed s m → (s.begin m).unread < 128 →
      t.noted s.exchange.writeCount.toNat ⟨.suppression, uplinkCode u, 1, 0, left, (s.cfg.judges.get u).suppress,
        (s.cfg.judges.get u).reuse, 1⟩ (s.begin m).now)) ∧
  (((s.judge u).suppressed = false ∨ (s.cfg.judges.get u).reuse < left) →
    exec (.decayTimerRunout m u) s = .next ((s.begin m).setJudge u { s.judge u with penalty := left, decayTimer := timer }))

/-! ## Selection -/

/-- EVALUATION_TIMER_RUNOUT: the timer is armed again 1 s later, and fibre_usable_since is kept within return_hold's largest value; with
fibre as a usable carrier and the stranded flag clear that is all. Carrier and sustain counter are those of the carrier procedure of a
timer evaluation (R93, R95 to R97; in HOLD they stay, R102), whose cases O23 gives. The stranded flag is set exactly while no uplink is
usable (R98). With the carrier in trouble, fibre that is not usable or a radio that is not usable with the other radio OFF, each OFF radio
whose retry_wait is idle is warmed, in RESERVE the one of higher bias alone and only beside a radio OFF or draining; no other OFF radio
changes (R101). CARRIER and STRANDED say what changed (R100, R108); an absent merit in CARRIER is log entry 35. -/
def Obligations.TimerEvaluationKeepsAUsableFibre : Prop := ∀ (s : State) (m : Moment) (due : Word),
  s.phase = .steering → s.selector.evaluation = some due → reached (s.begin m).now due = true →
  let b := s.begin m
  let since := match s.selector.fibreSince with
    | none => none
    | some w => if 3600000 < (b.now - w).toNat then some (b.now - 3600000) else some w
  let kept : State := { b with selector := { s.selector with evaluation := some (b.after 1000), fibreSince := since } }
  let c := if s.selector.mode = .steering then kept.carrierProcedure true else kept
  let bad := fun x : State => ∀ u, x.usable u = false
  let stranded := fun (old new : Nat) => (⟨.stranded, uplinkCode c.selector.carrier, old, new, modeCode s.selector.mode,
    verdictCode (s.judge .fibre).verdict, radioStateCode (s.radio .a).state, radioStateCode (s.radio .b).state⟩ : Notice)
  (∃ t, exec (.evaluationTimerRunout m) s = .next t ∧ t.selector.evaluation = some (b.after 1000) ∧
    t.selector.mode = s.selector.mode ∧ t.selector.holdTimer = s.selector.holdTimer ∧ t.judges.fibre = s.judges.fibre ∧
    Steady b t ∧
    (s.decisionsHold → s.undrained → s.deliveries = [] →
      let carrier := c.selector.carrier
      let trouble := (carrier = .fibre ∧ s.usable .fibre = false) ∨
        ∃ x : Radio, carrier = x.uplink ∧ s.usable x.uplink = false ∧ (s.radio x.other).state = .off
      let free := fun r : Radio => (s.radio r).state = .off ∧ (s.radio r).retryWait = none
      let bias := fun r : Radio => (s.cfg.judges.get r.uplink).bias
      let asked := fun r : Radio => trouble ∧ free r ∧ (s.conditions.powerTier = .reserve → (s.radio r.other).state = .off ∧
        (free r.other → bias r.other < bias r ∨ bias r.other = bias r ∧ r = .a))
      carrier = t.selector.carrier ∧ c.selector.sustain = t.selector.sustain ∧ (t.selector.stranded = true ↔ bad s) ∧
      ∀ r, (s.radio r).state = .off →
        (asked r → t.radio r = { s.radio r with
          state := .warming, poweredAt := some b.now, poweredWraps := b.clock.wraps
          warmMin := some (b.after ((s.cfg.timers.get r).warmMin * 1000))
          attachLimit := some (b.after ((s.cfg.timers.get r).attachLimit * 1000)), retryWait := none }) ∧
        (¬ asked r → t.radio r = s.radio r)) ∧
    (Undisturbed s m → c.selector.carrier = s.selector.carrier → (∀ r, (s.radio r).state ≠ .off) →
      (bad s → s.selector.stranded = false →
        Recorded { c with selector := { c.selector with stranded := true } } t (stranded 0 1)) ∧
      (¬ bad s → s.selector.stranded = true →
        Recorded { c with selector := { c.selector with stranded := false } } t (stranded 1 0)) ∧
      ((s.selector.stranded = true ↔ bad s) → t = c)) ∧
    (Undisturbed s m → c.selector.carrier ≠ s.selector.carrier →
      let reason := if s.selector.carrier = .fibre then 0
        else if c.selector.carrier = .fibre then (if (s.judge .fibre).verdict = .good ∧ kept.returnHoldMet = true then 1 else 3)
        else if s.usable s.selector.carrier then 2 else 3
      let merit := match c.selector.carrier, (s.judge c.selector.carrier).merit with
        | .fibre, _ => 0
        | _, none => Config.absentMerit.toNat
        | u, some x => x + (s.cfg.judges.get u).bias
      let bits := boolCode (s.usable .fibre) + 2 * boolCode (s.usable .radioA) + 4 * boolCode (s.usable .radioB)
      (b.unread < 128 → t.noted s.exchange.writeCount.toNat ⟨.carrier, uplinkCode c.selector.carrier, uplinkCode s.selector.carrier,
        uplinkCode c.selector.carrier, reason, modeCode s.selector.mode, bits, merit⟩ b.now) ∧
      (b.unread < 127 → s.selector.stranded = true → t.noted (s.exchange.writeCount.toNat + 1) (stranded 1 0) b.now))) ∧
  (s.selector.carrier = .fibre → s.usable .fibre = true → s.selector.stranded = false → s.deliveries = [] →
    exec (.evaluationTimerRunout m) s = .next kept)

/-- The carrier procedure of an evaluation in STEERING. With the carrier FIBRE (R95) a usable fibre keeps it; a fibre that is not usable
gives it to the usable radio of higher effective merit, then of higher bias, then RADIO_A; with no usable radio it stays. With a radio
as carrier (R96) a usable GOOD fibre that has waited out return_hold takes it back; else a usable carrier meets the switch test (R97),
which moves it at the timer evaluation that brings the sustain counter to switch_sustain; else it goes to a usable fibre, then to the
other usable radio, or stays. The sustain counter's value where the carrier stays without a switch test is log entry 32. -/
def Obligations.LostFibreGivesTheCarrierToTheBetterRadio : Prop := ∀ (s : State) (timer : Bool),
  s.selector.mode = .steering →
  let t := s.carrierProcedure timer
  let merit := fun r : Radio => (s.judge r.uplink).merit.getD 0 + (s.cfg.judges.get r.uplink).bias
  let moved := fun u : Uplink => t.selector.carrier = u ∧ t.selector.sustain = 0
  (s.selector.carrier = .fibre →
    (s.usable .fibre = true → t = s) ∧
    (s.usable .fibre = false → s.usable .radioA = false → s.usable .radioB = false → t = s) ∧
    (s.usable .fibre = false → ∀ r, s.usable r.uplink = true →
      (s.usable r.other.uplink = false ∨ merit r.other < merit r ∨
        merit r.other = merit r ∧ ((s.cfg.judges.get r.other.uplink).bias < (s.cfg.judges.get r.uplink).bias ∨
          (s.cfg.judges.get r.other.uplink).bias = (s.cfg.judges.get r.uplink).bias ∧ r = .a)) →
      moved r.uplink)) ∧
  ∀ x : Radio, s.selector.carrier = x.uplink →
    let back := s.usable .fibre = true ∧ (s.judge .fibre).verdict = .good ∧
      ∃ since, s.selector.fibreSince = some since ∧ s.cfg.selector.returnHold * 1000 ≤ (s.now - since).toNat
    let better := s.usable x.other.uplink = true ∧ merit x + s.cfg.selector.switchMargin ≤ merit x.other
    let sustained := fun n : Nat => t = { s with selector := { s.selector with sustain := n } }
    (back → moved .fibre) ∧
    (¬ back → s.usable x.uplink = true →
      (¬ better → sustained 0) ∧
      (better → timer = false → t = s) ∧
      (better → timer = true → s.selector.sustain + 1 < s.cfg.selector.switchSustain → sustained (s.selector.sustain + 1)) ∧
      (better → timer = true → s.cfg.selector.switchSustain ≤ s.selector.sustain + 1 → moved x.other.uplink)) ∧
    (¬ back → s.usable x.uplink = false →
      (s.usable .fibre = true → moved .fibre) ∧
      (s.usable .fibre = false → s.usable x.other.uplink = true → moved x.other.uplink) ∧
      (s.usable .fibre = false → s.usable x.other.uplink = false → t = s))

/-- HOLD_LIMIT_RUNOUT: the engine returns to STEERING with no hold timer, HOLD_EXPIRED is raised (R108), and an event evaluation makes the
carrier procedure of R95 to R97 and the stranded test (R93, R98, R104); while the exchange runs and no access fails, the device state word
in host memory shows it, with the carrier and the stranded flag that the evaluation left (R163). -/
def Obligations.HoldLimitRunoutReturnsToSteering : Prop := ∀ (s : State) (m : Moment) (due : Word),
  s.phase = .steering → s.selector.holdTimer = some due → reached (s.begin m).now due = true →
  (∃ t, exec (.holdLimitRunout m) s = .next t ∧ t.selector.mode = .steering ∧ t.selector.holdTimer = none ∧
    t.selector.holdLimit = s.selector.holdLimit ∧ t.judges.fibre = s.judges.fibre ∧ Steady (s.begin m) t ∧
    (s.running = true → m.failing = none → memoryWf s.memory = true → readBytes t.memory (t.area 0) 4 = leBytes 4 t.stateWord) ∧
    (s.decisionsHold → s.undrained → s.deliveries = [] →
      let c := State.carrierProcedure { s.begin m with selector := { s.selector with mode := .steering, holdTimer := none } } false
      t.selector.carrier = c.selector.carrier ∧ t.selector.sustain = c.selector.sustain ∧
      (t.selector.stranded = true ↔ ∀ u, s.usable u = false)) ∧
    (Undisturbed s m → (s.begin m).unread < 128 → t.noted s.exchange.writeCount.toNat
      ⟨.holdExpired, uplinkCode s.selector.carrier, 1, 0, s.selector.holdLimit, 0, 0, 0⟩ (s.begin m).now)) ∧
  (s.running = false → s.selector.carrier = .fibre → s.usable .fibre = true → s.selector.stranded = false → s.deliveries = [] →
    exec (.holdLimitRunout m) s = .next { s.begin m with selector := { s.selector with mode := .steering, holdTimer := none } })

/-- In HOLD no timer, no radio, no probe and no input moves the carrier (R102): of the rows that reach a steering part, only an end of the
hold, a SET_CARRIER, a dispatch that may hand one over, and a reset can. -/
def Obligations.HoldKeepsTheCarrier : Prop := ∀ (i : Instr) (s t : State),
  s.selector.mode = .hold → s.phase = .steering → exec i s = .next t →
  (match i with
    | .leaveHold _ _ => False
    | .holdLimitRunout _ => False
    | .setCarrier _ _ _ => False
    | .dispatch _ => False
    | .powerOn _ => False
    | .powerLoss _ => False
    | .exchangeStart _ w => w.getLsbD 6 = false
    | .exchangeStop _ w => w.getLsbD 6 = false
    | .deviceReset _ w => w.getLsbD 6 = false
    | .sweepIntervalSet _ w => w.getLsbD 6 = false
    | .interruptEnableSet _ w => w.getLsbD 6 = false
    | _ => True) →
  t.selector.carrier = s.selector.carrier ∧ t.selector.mode = .hold

/-! ## Flows, walks and policing -/

/-- AGEING_TIMER_RUNOUT: in one step every entry idle for its class's timeout leaves the table and counts as expired, the others stay as
they are, the counts are those of the entries that stay (R122), and the timer is armed again. A radio whose count goes to 0 that way is
re-tested: a CARRYING one that is not the carrier becomes STANDBY (R33), cool_hold running under COLD policy, and a draining one goes OFF
(R44), RADIO_STATE saying so with cause CARRIER_OR_FLOWS or DRAIN_DONE. That RADIO_A is re-tested first is log entry 39. -/
def Obligations.AgeingRemovesIdleEntries : Prop := ∀ (s : State) (m : Moment) (due : Word),
  s.phase = .steering → s.flows.ageing = some due → reached (s.begin m).now due = true →
  let idle := fun e : FlowEntry =>
    decide ((s.cfg.classes.get e.trafficClass).idleTimeout * 1000 ≤ ((s.begin m).now - e.lastSeen).toNat)
  ∃ t, exec (.ageingTimerRunout m) s = .next t ∧
    t.flows.entries = s.flows.entries.filter (fun p => !idle p.2) ∧
    t.flows.counters = { s.flows.counters with
      expiries := min 65535 (s.flows.counters.expiries + (s.flows.entries.filter (fun p => idle p.2)).length) } ∧
    t.flows.ageing = some ((s.begin m).after 1000) ∧ t.flows.shed = s.flows.shed ∧ t.wire = s.wire ∧
    (s.flows.entries.all (fun p => !idle p.2) = true → t.flows.counts = s.flows.counts) ∧
    (s.flows.Holds → ∀ a, t.flows.counts.get a = s.flows.entries.countP (fun p => !idle p.2 && decide (p.2.assigned = a))) ∧
    (s.flows.Holds → Undisturbed s m → ∀ r : Radio,
      let stays := fun q : Radio => ∃ p ∈ s.flows.entries, idle p.2 = false ∧ p.2.assigned = some q.uplink
      0 < s.radioCount r → ¬ stays r → s.selector.carrier ≠ r.uplink → (r = .b → s.radioCount .a = 0 ∨ stays .a) →
      let first := fun n : Notice => (s.begin m).unread < 128 → t.noted s.exchange.writeCount.toNat n (s.begin m).now
      let quiet := s.selector.carrier = .fibre ∧ s.usable .fibre = true ∧ s.selector.stranded = false
      ((s.radio r).draining = true → (s.radio r).state ≠ .off → (t.radio r).draining = false ∧
        (quiet → t.radio r = { s.radio r with
          state := .off, draining := false, warmMin := none, attachLimit := none, coolHold := none }) ∧
        first ⟨.radioState, radioCode r, radioStateCode (s.radio r).state, 0, 0, 10, 0, 0⟩) ∧
      ((s.radio r).draining = false → (s.radio r).state = .carrying →
        (quiet → t.radio r = { s.radio r with
          state := .standby
          coolHold := if (s.cfg.timers.get r).policy = .cold then some ((s.begin m).after ((s.cfg.timers.get r).coolHold * 1000)) else none }) ∧
        first ⟨.radioState, radioCode r, radioStateCode .carrying, radioStateCode .standby, 0, 6, 0, 0⟩))

/-- WALK_VISIT: with no walk, or at a free index, no entry changes; at a live one the entry is placed anew and its move count follows a
change of assignment; before the last index the cursor goes on. The end of the walk raises WALK_DONE (R141). -/
def Obligations.WalkVisitPlacesTheEntry : Prop := ∀ (s : State) (m : Moment), s.phase = .steering → s.deliveries = [] →
  (s.walk = none → exec (.walkVisit m) s = .next (s.begin m)) ∧
  ∀ w, s.walk = some w →
    (entryAt s.flows.entries w.cursor = none → w.cursor < 1023 →
      exec (.walkVisit m) s = .next { s.begin m with walk := some { w with cursor := w.cursor + 1 } }) ∧
    (entryAt s.flows.entries w.cursor = none → 1023 ≤ w.cursor → w.passPending = true →
      exec (.walkVisit m) s = .next { s.begin m with
        walk := some { w with cursor := 0, passPending := false, passes := min 65535 (w.passes + 1) } }) ∧
    (entryAt s.flows.entries w.cursor = none → 1023 ≤ w.cursor → w.passPending = false →
      ∃ t, exec (.walkVisit m) s = .next t ∧ t.walk = none ∧ t.flows = s.flows ∧
        (Undisturbed s m → Recorded { s.begin m with walk := none } t
          ⟨.walkDone, 0, w.passes, s.flows.entries.length, w.moved, w.held, w.shed, w.triggers.toNat⟩)) ∧
    ∀ e, entryAt s.flows.entries w.cursor = some e →
      let p := s.place e.trafficClass e.pin e.assigned
      ∃ t, exec (.walkVisit m) s = .next t ∧
        t.flows.entries = replaceEntry s.flows.entries w.cursor { e with
          assigned := p.assigned
          state := p.state
          moves := if p.assigned = e.assigned then e.moves else min 65535 (e.moves + 1) } ∧
        t.flows.counts = s.flows.counts.moved e.assigned p.assigned ∧ t.flows.counters = s.flows.counters ∧ t.cfg = s.cfg ∧
        (w.cursor < 1023 → ∃ w', t.walk = some w' ∧ w'.cursor = w.cursor + 1 ∧ w'.passes = w.passes ∧
          w'.moved = (if p.assigned = e.assigned then w.moved else min 65535 (w.moved + 1)) ∧
          w'.held = (if p.state = .held ∧ e.state = .settled then min 65535 (w.held + 1) else w.held) ∧
          w'.shed = (if p.state = .shed ∧ e.state ≠ .shed then min 65535 (w.shed + 1) else w.shed))

/-- Placement (R130, R131): a usable pin decides; else the voice hold keeps a VOICE entry on a usable uplink that is not the carrier and not
draining while a line is busy; else the carrier. A class that a radio does not admit is shed there, and fibre sheds nothing. -/
def Obligations.PlacementFollowsPinHoldAndCarrier : Prop := ∀ (s : State) (c : TrafficClass) (pin held : Option Uplink),
  (∀ u, pin = some u → s.usable u = true → s.place c pin held = s.placeOn c u) ∧
  ((∀ u, pin = some u → s.usable u = false) →
    (∀ u, c = .voice → held = some u → u ≠ s.selector.carrier → s.usable u = true → s.drains u = false → s.lineBusy = true →
      s.place c pin held = ⟨some u, .held⟩) ∧
    ((c ≠ .voice ∨ held = none ∨ held = some s.selector.carrier ∨ s.lineBusy = false ∨
        ∃ u, held = some u ∧ (s.usable u = false ∨ s.drains u = true)) →
      s.place c pin held = s.placeOn c s.selector.carrier)) ∧
  s.placeOn c .fibre = ⟨some .fibre, .settled⟩ ∧
  (∀ r : Radio, s.placeOn c r.uplink =
    (if allowanceTierCode (s.meter r).tier ≤ allowanceTierCode (s.cfg.classes.get c).radioAdmission ∧
        powerTierCode s.conditions.powerTier ≤ powerTierCode (s.cfg.classes.get c).powerAdmission
      then ⟨some r.uplink, .settled⟩ else ⟨none, .shed⟩)) ∧
  (s.lineBusy = true ↔ s.conditions.filtered.lineBusy1 = true ∨ s.conditions.filtered.lineBusy2 = true) ∧
  ∀ u, s.drains u = true ↔ ∃ r : Radio, u = r.uplink ∧ (s.radio r).draining = true

/-- A walk trigger (R137), whole: an idle Walker begins a walk with that one kind, a running one notes a further pass; any number of
triggers during one pass cause one further pass; and at the end of a pass a trigger taken first makes the walk go on, one taken after
begins a new walk. -/
def Obligations.WalkTriggersBeginOrExtendAWalk : Prop := ∀ (s : State) (k : TriggerKind),
  (s.walk = none → s.walkTrigger k = { s with walk := some ⟨0, false, 1, 0, 0, 0, 1 <<< triggerCode k⟩ }) ∧
  ∀ w, s.walk = some w →
    s.walkTrigger k = { s with walk := some { w with passPending := true, triggers := w.triggers ||| 1 <<< triggerCode k } } ∧
    (∀ ks : List TriggerKind, ks ≠ [] → (ks.foldl State.walkTrigger s).walk = some { w with
      passPending := true, triggers := ks.foldl (fun bits x => bits ||| 1 <<< triggerCode x) w.triggers }) ∧
    (((s.walkTrigger k).endPass { w with passPending := true, triggers := w.triggers ||| 1 <<< triggerCode k }).walk =
      some { w with
        cursor := 0, passPending := false, passes := min 65535 (w.passes + 1), triggers := w.triggers ||| 1 <<< triggerCode k }) ∧
    (w.passPending = false → ((s.endPass w).walkTrigger k).walk = some ⟨0, false, 1, 0, 0, 0, 1 <<< triggerCode k⟩)

/-- REFRESH_TIMER_RUNOUT: a bucket not credited for 10,000,000 ms becomes full, every other stays, and the timer is armed again; nothing
else changes. -/
def Obligations.RefreshFillsLongIdleBuckets : Prop := ∀ (s : State) (m : Moment) (due : Word),
  s.phase = .steering → s.policer.refresh = some due → reached (s.begin m).now due = true → s.deliveries = [] →
  ∃ t, exec (.refreshTimerRunout m) s = .next t ∧
    t = { s.begin m with policer := t.policer } ∧ t.policer.refresh = some ((s.begin m).after 1000) ∧
    ∀ k, t.policer.buckets.get k =
      (if 10000000 ≤ ((s.begin m).now - (s.policer.buckets.get k).lastCredit).toNat then
        { s.policer.buckets.get k with tokens := 8 * (s.cfg.classes.get k).burst, lastCredit := (s.begin m).now }
      else s.policer.buckets.get k)

/-! ## The exchange -/

/-- SWEEP_TIMER_RUNOUT, NUDGE and SWEEP_SLOT: a sweep starts at slot 0, or is kept pending while one is in progress; the timer is armed
again by the interval in force. A slot that is not POSTED, or that finds the queue full, is only passed over. A POSTED slot is taken: its
request joins the queue's end as the slot holds it, the token becomes TAKEN, and no other byte of host memory changes. An older request of
the slot is detached first (R168): a queued one leaves the queue, one in flight is no longer tied to the slot, and one EXCHANGE_FAULT notice
with cause DETACHED (R169) is recorded, or counted lost where 128 are unread (R171). A failed read of the token or of the request, and a
failed write of the token, clear RUN, set FAULT and stop the exchange, and change nothing else (R164; that these are one access each is log
entry 1). -/
def Obligations.SweepsTakePostedSlots : Prop := ∀ (s : State) (m : Moment),
  s.phase = .steering → s.running = true → s.deliveries = [] →
  let b := s.begin m
  let next := fun x : Exchange => match s.exchange.sweepAt with
    | none => { x with sweepAt := some 0 }
    | some _ => { x with sweepPending := true }
  (∀ value, exec (.nudge m value) s = .next { b with exchange := next s.exchange }) ∧
  (∀ due, s.exchange.sweepTimer = some due → reached b.now due = true →
    exec (.sweepTimerRunout m) s = .next { b with exchange := next { s.exchange with
      sweepTimer := if s.regs.sweep = 0 then none else some (b.after s.regs.sweep) } }) ∧
  (∀ n : Fin 32, s.exchange.sweepAt = some n.val →
    (m.failing = some 0 → exec (.sweepSlot m) s = .next b.failed) ∧
    (b.token n.val = tokenPosted → s.exchange.queue.length < 8 →
      (m.failing = some 1 → exec (.sweepSlot m) s = .next b.failed) ∧
      (m.failing = some 2 → (∀ q ∈ s.exchange.queue, q.slot ≠ n) → (∀ f ∈ s.exchange.inFlight, f.tied = true → f.slot ≠ n) →
        exec (.sweepSlot m) s = .next b.failed))) ∧
  ∀ n : Fin 32, m.failing = none → memoryWf s.memory = true → s.exchange.sweepAt = some n.val →
    let on : Exchange → Exchange := fun x =>
      if n.val = 31 then (if s.exchange.sweepPending then { x with sweepAt := some 0, sweepPending := false } else { x with sweepAt := none })
      else { x with sweepAt := some (n.val + 1) }
    ((b.token n.val ≠ tokenPosted ∨ 8 ≤ s.exchange.queue.length) → exec (.sweepSlot m) s = .next { b with exchange := on s.exchange }) ∧
    (b.token n.val = tokenPosted → s.exchange.queue.length < 8 →
      (∀ q ∈ s.exchange.queue, q.slot ≠ n) → (∀ f ∈ s.exchange.inFlight, f.tied = true → f.slot ≠ n) →
      ∃ t, exec (.sweepSlot m) s = .next t ∧
        t = { b with memory := t.memory, exchange := on { s.exchange with queue := s.exchange.queue ++ [b.requestIn n] } } ∧
        t.token n.val = tokenTaken ∧
        ∀ a, ¬ among (b.area (slotOffset n.val)) 1 a → readByte t.memory a = readByte b.memory a) ∧
    (b.token n.val = tokenPosted → s.exchange.queue.length < 8 →
      let notice := fun (kind : Nat) (tag : Word) => (⟨.exchangeFault, n.val, 1, 0, kind, tag.toNat, 1, 0⟩ : Notice)
      let detached := fun (t : State) (x : Exchange) (kind : Nat) (tag : Word) =>
        let y := { x with queue := x.queue ++ [b.requestIn n] }
        t.token n.val = tokenTaken ∧
        (∀ a, ¬ among (b.area (slotOffset n.val)) 1 a → ¬ noticePlace s.regs.areaBase a → readByte t.memory a = readByte b.memory a) ∧
        t = { b with memory := t.memory, regs := t.regs, exchange := t.exchange } ∧
        (b.unread < 128 → t.exchange = on { y with writeCount := s.exchange.writeCount + 1 } ∧
          t.regs = { s.regs with cause := s.regs.cause ||| 2 } ∧
          readBytes t.memory (t.area (noticeOffset (s.exchange.writeCount.toNat % 128))) 28 = (notice kind tag).bytes b.now) ∧
        (128 ≤ b.unread → t.exchange = on { y with lostCount := min 65535 (s.exchange.lostCount + 1) } ∧
          t.regs = { s.regs with cause := s.regs.cause ||| 4 })
      (∀ q, s.exchange.queue.find? (fun q => q.slot.val == n.val) = some q → ∃ t, exec (.sweepSlot m) s = .next t ∧
        detached t { s.exchange with queue := s.exchange.queue.filter (fun x => x.slot.val != n.val) } q.kind.toNat q.tag) ∧
      ∀ f, s.exchange.queue.find? (fun q => q.slot.val == n.val) = none →
        s.exchange.inFlight.find? (fun f => f.tied && f.slot.val == n.val) = some f → ∃ t, exec (.sweepSlot m) s = .next t ∧
          detached t { s.exchange with
            inFlight := s.exchange.inFlight.map (fun g => if g.slot.val = n.val then { g with tied := false } else g) }
            (timedKind f.owner) f.tag)

/-- DISPATCH: the oldest request leaves the queue and is handed to its owner by its kind: what the dispatch does is what the row of that
request does, with the parameters its body holds (log entry 23). A kind outside the catalogue is answered UNKNOWN_KIND, and nothing else
changes. -/
def Obligations.DispatchHandsTheOldestRequestOver : Prop := ∀ (s : State) (m : Moment) (q : QueuedRequest) (rest : List QueuedRequest),
  s.exchange.queue = q :: rest →
  let s' : State := { s with exchange := { s.exchange with queue := rest } }
  let k : Ticket := ⟨q.slot, q.tag⟩
  let w := bodyWord q.body
  s.phase = .steering → s.running = true →
  (q.kind = 0x01 → exec (.dispatch m) s = exec (.status m k) s') ∧
  (q.kind = 0x02 → exec (.dispatch m) s = exec (.snapshot m k) s') ∧
  (q.kind = 0x03 → exec (.dispatch m) s = exec (.enterHold m k (w 0)) s') ∧
  (q.kind = 0x04 → exec (.dispatch m) s = exec (.leaveHold m k) s') ∧
  (q.kind = 0x05 → exec (.dispatch m) s = exec (.setCarrier m k (w 0)) s') ∧
  (q.kind = 0x06 → exec (.dispatch m) s = exec (.setUplink m k (uplinkParamsOf q.body)) s') ∧
  (q.kind = 0x07 → exec (.dispatch m) s = exec (.setSelector m k ⟨w 0, w 1, w 2⟩) s') ∧
  (q.kind = 0x08 → exec (.dispatch m) s = exec (.setClass m k (w 0) (classOf q.body)) s') ∧
  (q.kind = 0x09 → exec (.dispatch m) s = exec (.setRule m k (w 0) (ruleOf q.body)) s') ∧
  (q.kind = 0x0A → exec (.dispatch m) s = exec (.pin m k (keyIn q.body) (bodyByte q.body 0 2)) s') ∧
  (q.kind = 0x0B → exec (.dispatch m) s = exec (.readFlows m k (w 0) (w 1) (bodyPair q.body 2)) s') ∧
  (q.kind = 0x0C → exec (.dispatch m) s = exec (.probeBurst m k (w 0) (w 1)) s') ∧
  (q.kind = 0x0D → w 1 = 0 → exec (.dispatch m) s = exec (.radioPowerWarm m k (w 0)) s') ∧
  (q.kind = 0x0D → w 1 = 1 → exec (.dispatch m) s = exec (.radioPowerOff m k (w 0)) s') ∧
  (q.kind = 0x0E → exec (.dispatch m) s = exec (.setRadioTimers m k (w 0) ⟨w 1, w 2, w 3, w 4, w 5⟩) s') ∧
  (q.kind = 0x0F → exec (.dispatch m) s = exec (.setAllowance m k (w 0) ⟨bodyPair q.body 1, w 3, w 4⟩) s') ∧
  (q.kind = 0x10 → exec (.dispatch m) s = exec (.openPeriod m k (w 0)) s') ∧
  (q.kind = 0x11 → exec (.dispatch m) s = exec (.setRemaining m k (w 0) (bodyPair q.body 1)) s') ∧
  (q.kind = 0x12 → exec (.dispatch m) s = exec (.setLead m k ⟨w 0, w 1, w 2, w 3⟩) s') ∧
  (q.kind = 0x13 → exec (.dispatch m) s = exec (.setWatch m k (watchOf q.body)) s') ∧
  (q.kind = 0x14 → exec (.dispatch m) s = exec (.store m k) s') ∧
  (q.kind = 0x15 → exec (.dispatch m) s = exec (.cancel m k (w 0)) s') ∧
  ((q.kind = 0 ∨ 0x15 < q.kind.toNat) → Posed s m k → ∃ t, exec (.dispatch m) s = .next t ∧
    AnsweredFrom { s.begin m with exchange := { s.exchange with queue := rest } } t k .unknownKind [])

/-- The CONTROL rows EXCHANGE_STOP, SWEEP_INTERVAL_SET and INTERRUPT_ENABLE_SET, and EXCHANGE_START while the exchange runs: the enables and
SWEEP are stored, reserved bits stay 0 (each row has the effects of the whole word, log entry 22), a stop empties the queue and ends a copy
and a sweep, and a new interval restarts the sweep timer. -/
def Obligations.ControlWritesStoreTheirFields : Prop := ∀ (s : State) (m : Moment) (w : Word),
  s.phase = .steering → s.deliveries = [] → w.getLsbD 6 = false → (w.getLsbD 0 = true → s.running = true) →
  let control := w &&& 0xFF3F
  let interval := (w >>> 8).toNat % 256
  let x := s.exchange
  let after : State := { s.begin m with
    regs := { s.regs with control := control }
    exchange :=
      (if w.getLsbD 0 then
        (if interval = s.regs.sweep then x
         else { x with sweepTimer := if interval = 0 then none else some ((s.begin m).after interval) })
       else if s.running then
        { x with
          queue := [], inFlight := x.inFlight.filter (fun f => f.owner != .copy), sweepTimer := none, sweepAt := none
          sweepPending := false, copy := none }
       else x) }
  exec (.exchangeStart m w) s = .next after ∧ exec (.exchangeStop m w) s = .next after ∧
  exec (.sweepIntervalSet m w) s = .next after ∧ exec (.interruptEnableSet m w) s = .next after

/-- EXCHANGE_START from a stop: RUN is 1, the counts restart, the header shows write count 1, lost count 0, read count 0 and the state
word, the first notice record is EXCHANGE_STARTED whole, with the load report and IDENT, and a sweep starts. No byte outside the first
10 of the header and the first 28 of the record changes: that the reserved places stay as they are is the model's choice (log
entry 29). -/
def Obligations.ExchangeStartWritesTheHeader : Prop := ∀ (s : State) (m : Moment) (w : Word),
  s.phase = .steering → s.running = false → w.getLsbD 0 = true → w.getLsbD 6 = false → m.failing = none → memoryWf s.memory = true →
  s.deliveries = [] → s.exchange.sweepAt = none →
  ∃ t, exec (.exchangeStart m w) s = .next t ∧ t.running = true ∧ t.regs.control = w &&& 0xFF3F ∧
    t.exchange.writeCount = 1 ∧ t.exchange.lostCount = 0 ∧ t.exchange.sweepAt = some 0 ∧
    readBytes t.memory (t.area 0) 4 = [BitVec.ofNat 8 (uplinkCode s.selector.carrier + (if s.selector.mode = .hold then 4 else 0) +
      (match s.conditions.powerTier with
        | .mains => 0
        | .battery => 8
        | .reserve => 16) + if s.selector.stranded then 32 else 0), 0, 0, 0] ∧
    readBytes t.memory (t.area 4) 2 = [1, 0] ∧ readBytes t.memory (t.area 6) 2 = [0, 0] ∧ readBytes t.memory (t.area 8) 2 = [0, 0] ∧
    readBytes t.memory (t.area 0x1100) 28 = [0, 0, 0, 0, 1, 0, 0, 0] ++ leBytes 4 (s.begin m).now.toNat ++
      leBytes 4 (loadResultCode s.store.report.result) ++ leBytes 4 s.store.report.corrected ++
      leBytes 4 s.store.report.lastCorrected ++ [0x01, 0x00, 0x40, 0x22] ∧
    (∀ a, ¬ among (t.area 0) 10 a → ¬ among (t.area 0x1100) 28 a → readByte t.memory a = readByte (s.begin m).memory a) ∧
    t.exchange.inFlight = s.exchange.inFlight ∧ t.selector = s.selector ∧ t.cfg = s.cfg

/-- CAUSE_CLEAR, REGISTER_WRITE and PCIE_LINK_RESET: a cause bit written 1 clears and the others stay; the area base is stored while RUN is
0, its low 12 bits 0, and ignored while RUN is 1; a link reset clears RUN, stops the exchange and leaves the other fields. -/
def Obligations.RegisterWritesAndLinkReset : Prop := ∀ (s : State) (m : Moment) (w : Word), s.deliveries = [] →
  (s.phase = .steering → ∃ t, exec (.causeClear m w) s = .next t ∧
    t = { s.begin m with regs := { s.regs with cause := t.regs.cause } } ∧
    ∀ i, t.regs.cause.getLsbD i = (s.regs.cause.getLsbD i && !w.getLsbD i)) ∧
  (s.phase = .steering → s.running = true → ∀ h, exec (.registerWrite m h w) s = .next (s.begin m)) ∧
  (s.phase = .steering → s.running = false →
    (∃ t, exec (.registerWrite m .low w) s = .next t ∧ t = { s.begin m with regs := { s.regs with areaLow := t.regs.areaLow } } ∧
      ∀ i, t.regs.areaLow.getLsbD i = (decide (12 ≤ i) && w.getLsbD i)) ∧
    exec (.registerWrite m .high w) s = .next { s.begin m with regs := { s.regs with areaHigh := w } }) ∧
  (s.running = false → exec (.pcieLinkReset m) s = .next (s.begin m)) ∧
  (s.running = true → ∃ t, exec (.pcieLinkReset m) s = .next t ∧ t.running = false ∧
    (∀ i, 0 < i → t.regs.control.getLsbD i = s.regs.control.getLsbD i) ∧ t.regs.cause = s.regs.cause ∧
    t = { s.begin m with
      regs := { s.regs with control := t.regs.control }
      exchange := { s.exchange with
        queue := [], inFlight := s.exchange.inFlight.filter (fun f => f.owner != .copy), sweepTimer := none, sweepAt := none
        sweepPending := false, copy := none } })

/-! ## Requests -/

/-- STATUS: always DONE, with the 21 words of section 12.4, and no state of any block changes. The conformity byte and the value of a link
bit are free values (log entry 16), and a hold remaining of 0 once the due time is reached is the model's choice (log entry 34). A slot that
no longer reads TAKEN is not answered: nothing is written to it and one EXCHANGE_FAULT with cause ABANDONED is raised (R167, R169). An access
that fails, of the answer or of that notice, clears RUN, sets FAULT and stops the exchange; the token stays TAKEN and the write count where it
was (R164; what is one access is log entry 1). -/
def Obligations.StatusReportsAndChangesNothing : Prop := ∀ (s : State) (m : Moment) (k : Ticket),
  let b := s.begin m
  let changed := fun (t : State) (own : Nat → Prop) =>
    t = { b.failed with memory := t.memory } ∧ ∀ a, ¬ own a → readByte t.memory a = readByte b.memory a
  let judge := fun u : Uplink =>
    let j := s.judge u
    [halves (verdictCode j.verdict + 256 * boolCode j.suppressed) (match j.merit with | none => 0xFFFF | some x => x),
      (match j.srtt with | none => 0xFFFFFFFF | some x => word x), halves (j.window.length + 256 * lostIn j.window) j.penalty]
  let radio := fun r : Radio =>
    [bytesWord (radioStateCode (s.radio r).state) (boolCode (s.radio r).draining) (allowanceTierCode (s.meter r).tier) 0,
      word (s.meter r).remaining, word ((s.meter r).remaining / 2 ^ 32)]
  (s.phase = .steering → Undisturbed s m → b.token k.slot.val ≠ tokenTaken → ∃ t, exec (.status m k) s = .next t ∧
    Recorded b t ⟨.exchangeFault, k.slot.val, b.token k.slot.val, 0, 1, k.tag.toNat, 0, 0⟩) ∧
  (∀ j, s.phase = .steering → s.running = true → s.deliveries = [] → memoryWf s.memory = true → m.failing = some j →
    (b.token k.slot.val = tokenTaken → j ≤ 4 → ∃ t, exec (.status m k) s = .next t ∧ changed t (among (b.slotAddress k) 128) ∧
      t.token k.slot.val = tokenTaken ∧ (j ≤ 1 → t.memory = b.memory)) ∧
    (b.token k.slot.val ≠ tokenTaken → b.unread < 128 → j ≤ 3 → ∃ t, exec (.status m k) s = .next t ∧
      changed t (noticePlace s.regs.areaBase) ∧ (j ≤ 2 → t.memory = b.memory))) ∧
  (Posed s m k → ∃ t, exec (.status m k) s = .next t ∧ AnsweredFrom (s.begin m) t k .done
    ([bytesWord (uplinkCode s.selector.carrier) (modeCode s.selector.mode) (powerTierCode s.conditions.powerTier)
        (boolCode s.selector.stranded),
      (match s.selector.mode, s.selector.holdTimer with
        | .steering, _ => 0
        | .hold, none => 0xFFFFFFFF
        | .hold, some due => if reached (s.begin m).now due then 0 else due - (s.begin m).now),
      halves s.cfg.selector.returnHold s.cfg.selector.switchMargin,
      bytesWord s.cfg.selector.switchSustain (inputBits s.conditions.filtered).toNat (Config.conformityCode s.conditions.conforming).toNat
        ((Config.linkBit s.links.lan).toNat + 2 * (Config.linkBit s.links.f).toNat + 4 * (Config.linkBit s.links.ra).toNat +
          8 * (Config.linkBit s.links.rb).toNat)] ++
      judge .fibre ++ judge .radioA ++ judge .radioB ++ radio .a ++ radio .b ++
      [halves s.flows.entries.length (loadResultCode s.store.report.result + 256 * (s.store.report.corrected % 256)),
        word s.store.report.lastCorrected]))

/-- SNAPSHOT: the 32 counters as they stand, two to a word, and each of them then 0; nothing else changes. -/
def Obligations.SnapshotReadsAndClearsTheCounters : Prop := ∀ (s : State) (m : Moment) (k : Ticket), Posed s m k →
  let probe := fun u : Uplink => let c := (s.prober u).counters; [c.sent, c.answered, c.lost, c.late, c.discarded]
  let values := probe .fibre ++ probe .radioA ++ probe .radioB ++
    [(s.policer.buckets.get .voice).policed, (s.policer.buckets.get .interactive).policed,
      (s.policer.buckets.get .standard).policed, (s.policer.buckets.get .bulk).policed,
      s.flows.shed.get .voice, s.flows.shed.get .interactive, s.flows.shed.get .standard, s.flows.shed.get .bulk,
      s.flows.counters.creations, s.flows.counters.refusals, s.flows.counters.evictions, s.flows.counters.expiries,
      s.flows.counters.unkeyed, (s.framer .a).reassemblyDiscards, (s.framer .a).carryDiscards, (s.framer .b).reassemblyDiscards,
      (s.framer .b).carryDiscards]
  ∃ t u words, exec (.snapshot m k) s = .next t ∧ AnsweredFrom u t k .done words ∧ words.length = 16 ∧
    (∀ p : Nat, p < 16 → words.getD p 0 = halves (values.getD (2 * p) 0) (values.getD (2 * p + 1) 0)) ∧
    u = { s.begin m with probers := u.probers, policer := u.policer, flows := u.flows, framers := u.framers } ∧
    (∀ v, u.prober v = { s.prober v with counters := ⟨0, 0, 0, 0, 0⟩ }) ∧
    u.flows = { s.flows with counters := ⟨0, 0, 0, 0, 0⟩, shed := ⟨0, 0, 0, 0⟩ } ∧
    (∀ r, u.framer r = { s.framer r with reassemblyDiscards := 0, carryDiscards := 0 }) ∧ u.policer.refresh = s.policer.refresh ∧
    ∀ c, u.policer.buckets.get c = { s.policer.buckets.get c with policed := 0 }

/-- ENTER_HOLD (R103), whole: in either mode HOLD begins or starts afresh, with the limit brought to 86400 s; only the answer, the state
word and the selector change: no carrier change, no notice, no walk. -/
def Obligations.EnterHoldBeginsOrRestartsTheHold : Prop := ∀ (s : State) (m : Moment) (k : Ticket) (limit : Word), Posed s m k →
  let b := s.begin m
  let n := min 86400 limit.toNat
  ∃ t, exec (.enterHold m k limit) s = .next t ∧
    t = { b with
      selector := { s.selector with
        mode := .hold, sustain := 0, holdLimit := n
        holdTimer := if n = 0 then none else some (b.now + BitVec.ofNat 32 (n * 1000)) }
      memory := t.memory
      regs := { s.regs with cause := s.regs.cause ||| 1 } } ∧
    Answered t k (if 86400 < limit.toNat then .clamped else .done)
      [halves 1 (uplinkCode s.selector.carrier), if n = 0 then 0xFFFFFFFF else BitVec.ofNat 32 (n * 1000)] ∧
    ∀ a, ¬ among (b.area 0) 4 a → ¬ among (b.slotAddress k) 128 a → readByte t.memory a = readByte b.memory a

/-- LEAVE_HOLD: in STEERING it is answered DONE and changes nothing; in HOLD the mode becomes STEERING, the hold timer stops, an event
evaluation makes the carrier procedure of R95 to R97 and the stranded test (R93, R98, R104), and the answer carries the carrier it left. -/
def Obligations.LeaveHoldEvaluatesAndAnswers : Prop := ∀ (s : State) (m : Moment) (k : Ticket), Posed s m k →
  (s.selector.mode = .steering → ∃ t, exec (.leaveHold m k) s = .next t ∧
    AnsweredFrom (s.begin m) t k .done [halves 0 (uplinkCode s.selector.carrier)]) ∧
  (s.selector.mode = .hold → s.undrained → ∃ t, exec (.leaveHold m k) s = .next t ∧
    t.selector.mode = .steering ∧ t.selector.holdTimer = none ∧
    Answered t k .done [halves 0 (uplinkCode ((s.begin m).endHold.evaluate false).selector.carrier)] ∧
    Steady (s.begin m) t ∧ t.probers = s.probers ∧ t.judges.fibre = s.judges.fibre ∧
    (s.selector.carrier = .fibre → s.usable .fibre = true → t.selector.carrier = .fibre) ∧
    (s.decisionsHold →
      let c := State.carrierProcedure { s.begin m with selector := { s.selector with mode := .steering, holdTimer := none } } false
      t.selector.carrier = c.selector.carrier ∧ t.selector.sustain = c.selector.sustain ∧
      (t.selector.stranded = true ↔ ∀ u, s.usable u = false) ∧ Answered t k .done [halves 0 (uplinkCode t.selector.carrier)]))

/-- SET_CARRIER: WRONG_MODE in STEERING; in HOLD an unknown code is refused, an uplink that is not accepted is answered IN_USE, the present
carrier DONE, and any other accepted uplink becomes the carrier, with a CARRIER notice of reason SET_CARRIER (R99, R100, R106; an absent
merit is log entry 35). The Sequencer re-tests each radio then: a ready one is CARRYING exactly when it is the new carrier or has an
assigned entry, with cool_hold and RADIO_STATE of cause CARRIER_OR_FLOWS on a change (R33), and a draining one that is neither goes OFF with
cause DRAIN_DONE (R44), though a stranded part may warm it anew (R101). RADIO_A is re-tested first, after CARRIER and the STRANDED of a flag
that clears (log entry 39). -/
def Obligations.SetCarrierMovesTheCarrierInHold : Prop := ∀ (s : State) (m : Moment) (k : Ticket) (code : Word), Posed s m k →
  (s.selector.mode = .steering → ∃ t, exec (.setCarrier m k code) s = .next t ∧ AnsweredFrom (s.begin m) t k .wrongMode []) ∧
  (s.selector.mode = .hold → 2 < code.toNat → ∃ t, exec (.setCarrier m k code) s = .next t ∧
    AnsweredFrom (s.begin m) t k .badParameter []) ∧
  ∀ u, code.toNat = uplinkCode u → s.selector.mode = .hold →
    let accepted := s.links.get u.port = true ∧ ∀ r, u = r.uplink → (s.radio r).state.ready = true ∧ (s.radio r).draining = false
    (¬ accepted → ∃ t, exec (.setCarrier m k code) s = .next t ∧
      AnsweredFrom (s.begin m) t k .inUse [halves (uplinkCode s.selector.carrier) (boolCode (s.usable u))]) ∧
    (accepted → s.selector.carrier = u → ∃ t, exec (.setCarrier m k code) s = .next t ∧
      AnsweredFrom (s.begin m) t k .done [halves (uplinkCode u) (boolCode (s.usable u))]) ∧
    (accepted → s.selector.carrier ≠ u → s.undrained → ∃ t, exec (.setCarrier m k code) s = .next t ∧
      t.selector.carrier = u ∧ t.selector.mode = .hold ∧ t.selector.sustain = 0 ∧ t.selector.holdTimer = s.selector.holdTimer ∧
      Answered t k .done [halves (uplinkCode u) (boolCode (s.usable u))] ∧ Steady (s.begin m) t ∧ t.probers = s.probers ∧
      ((s.begin m).unread < 128 →
        let merit := match u, (s.judge u).merit with
          | .fibre, _ => 0
          | _, none => Config.absentMerit.toNat
          | v, some x => x + (s.cfg.judges.get v).bias
        t.noted s.exchange.writeCount.toNat ⟨.carrier, uplinkCode u, uplinkCode s.selector.carrier, uplinkCode u, 4, 1,
          boolCode (s.usable .fibre) + 2 * boolCode (s.usable .radioA) + 4 * boolCode (s.usable .radioB), merit⟩ (s.begin m).now)) ∧
    (accepted → s.selector.carrier ≠ u → ∃ t, exec (.setCarrier m k code) s = .next t ∧
      let ready := fun r : Radio => (s.radio r).state = .standby ∨ (s.radio r).state = .carrying
      let new := fun r : Radio => if u = r.uplink ∨ 0 < s.radioCount r then RadioState.carrying else .standby
      let drained := fun r : Radio => (s.radio r).draining = true ∧ (s.radio r).state ≠ .off ∧ u ≠ r.uplink ∧ s.radioCount r = 0
      ∀ r : Radio, (r = .b → ¬ drained .a) →
        let at' := 1 + boolCode s.selector.stranded + (if r = .b ∧ ready .a ∧ (s.radio .a).state ≠ new .a then 1 else 0)
        let tells := fun n : Notice =>
          (s.begin m).unread + at' < 128 → t.noted (s.exchange.writeCount.toNat + at') n (s.begin m).now
        (drained r → (t.radio r).draining = false ∧ (t.radio r).state.ready = false ∧
          tells ⟨.radioState, radioCode r, radioStateCode (s.radio r).state, 0, 0, 10, 0, 0⟩) ∧
        (¬ drained r → ready r →
          t.radio r = { s.radio r with
            state := new r
            coolHold := if (s.radio r).state = new r then (s.radio r).coolHold
              else if new r = .standby ∧ (s.cfg.timers.get r).policy = .cold
                then some ((s.begin m).after ((s.cfg.timers.get r).coolHold * 1000)) else none } ∧
          ((s.radio r).state ≠ new r → tells ⟨.radioState, radioCode r, radioStateCode (s.radio r).state, radioStateCode (new r),
            boolCode (s.radio r).draining, 6, s.radioCount r, 0⟩)) ∧
        ((s.radio r).state = .warming → ¬ drained r → t.radio r = s.radio r))

/-- SET_UPLINK, each part alone: WRONG_MODE in STEERING; BAD_PARAMETER, with nothing applied, for an unknown uplink, an IP version other
than 4 or 6 in a record, or an inconsistent pair. A probe part and a judgement part are stored in range; FIBRE's standby interval and bias
are ignored, checked by nothing, and stay (R52, R70). A judgement part re-judges the uplink when a threshold changed, with cause THRESHOLDS
(R88), then tests suppression when a level changed, with cause LEVELS (R85, R89), their notices in that order. A clear or a changed full
record of a radio voids its judgement, empties its lists, which ends a running burst (R66), and sets its probe timer due at once; an equal
full record changes nothing. A clear of the fibre record leaves the derived verdict (R81; its VERDICT's old code is log entry 44) and the
site identifier; a full fibre record carries the site identifier, whose change voids every configured uplink. That an addressing code above
2 is refused, and that a nonzero byte says that a part is present, is the model's choice (log entry 17), as is storing 0 in the last 12
bytes of an IPv4 address (log entry 27). -/
def Obligations.SetUplinkAppliesItsParts : Prop := ∀ (s : State) (m : Moment) (k : Ticket) (p : UplinkParams), Posed s m k →
  let b := s.begin m
  let voided := fun (t : State) (u : Uplink) =>
    (t.judge u).window = [] ∧ (t.judge u).srtt = none ∧ (t.judge u).merit = none ∧ (t.judge u).runAnswered = 0 ∧
    (t.judge u).runLost = 0 ∧ (t.judge u).penalty = (s.judge u).penalty ∧ (t.judge u).suppressed = (s.judge u).suppressed ∧
    t.prober u = { s.prober u with outstanding := [], timer := some b.now, burst := none } ∧
    ∀ x, (s.prober u).burst = some x → BurstEnded s b t u x
  let apart := ∀ u f, s.inFlightOf (.burst u) = some f → f.slot ≠ k.slot ∧
    ∀ v g, s.inFlightOf (.burst v) = some g → v ≠ u → g.slot ≠ f.slot
  let unknown := fun (t : State) (u : Uplink) => (t.judge u).verdict = .unknown ∧ (t.judge u).usable = false
  let kept := fun (t : State) (u : Uplink) => t.judge u = { s.judge u with usable := (t.judge u).usable } ∧ t.prober u = s.prober u
  let emptied := fun (t : State) (r : Radio) => t.framer r = { s.framer r with
    held := [], reassemblyDiscards := min 65535 ((s.framer r).reassemblyDiscards + (s.framer r).held.length) }
  let record := fun v : IpVersion => (⟨v, addressOf v p.record.localAddress, p.record.localPort, addressOf v p.record.remoteAddress,
    p.record.remotePort, p.record.nextHop⟩ : AddressRecord)
  let answer := fun (v : Verdict) (u : Uplink) => [halves (verdictCode v + 256 * boolCode (s.judge u).suppressed) (s.judge u).penalty]
  (s.selector.mode = .steering → ∃ t, exec (.setUplink m k p) s = .next t ∧ AnsweredFrom b t k .wrongMode []) ∧
  (s.selector.mode = .hold → (2 < p.uplink.toNat ∨ 2 < p.addressing.toNat ∨
      (p.addressing = 2 ∧ p.record.version.toNat ≠ 4 ∧ p.record.version.toNat ≠ 6) ∨
      (p.judgePart ≠ 0 ∧ max 1 (min 32 p.judge.failLoss.toNat) ≤ p.judge.goodLoss.toNat) ∨
      (p.judgePart ≠ 0 ∧ max 1 (min 16000 p.judge.suppress.toNat) ≤ p.judge.reuse.toNat)) →
    ∃ t, exec (.setUplink m k p) s = .next t ∧ AnsweredFrom b t k .badParameter []) ∧
  (∀ r : Radio, s.selector.mode = .hold → p.uplink.toNat = radioCode r →
    let u := r.uplink
    let was := answer (s.judge u).verdict u
    (p.addressing = 1 → p.probePart = 0 → p.judgePart = 0 →
      (s.cfg.records.get u = none → ∃ t, exec (.setUplink m k p) s = .next t ∧ AnsweredFrom b t k .done was) ∧
      ((s.cfg.records.get u).isSome → apart → s.undrained → ∃ t, exec (.setUplink m k p) s = .next t ∧
        t.cfg = { s.cfg with records := s.cfg.records.set u none } ∧ unknown t u ∧ voided t u ∧ emptied t r ∧
        (∀ v, v ≠ u → kept t v) ∧ t.framer r.other = s.framer r.other ∧ Answered t k .done (answer .unknown u))) ∧
    (∀ v, p.addressing = 2 → p.probePart = 0 → p.judgePart = 0 → p.record.version.toNat = versionCode v →
      let limit := max 1280 (min 1600 p.linkLimit.toNat)
      let o : RequestOutcome := if limit = p.linkLimit.toNat then .done else .clamped
      (s.cfg.records.get u = some (record v) → s.cfg.linkLimits.get r = limit → ∃ t, exec (.setUplink m k p) s = .next t ∧
        AnsweredFrom b t k o was) ∧
      ((s.cfg.records.get u ≠ some (record v) ∨ s.cfg.linkLimits.get r ≠ limit) → apart → s.undrained →
        ∃ t, exec (.setUplink m k p) s = .next t ∧
          t.cfg = { s.cfg with
            records := s.cfg.records.set u (some (record v)), linkLimits := s.cfg.linkLimits.set r limit } ∧
          unknown t u ∧ voided t u ∧ emptied t r ∧ (∀ v, v ≠ u → kept t v) ∧ t.framer r.other = s.framer r.other ∧
          Answered t k o (answer .unknown u)))) ∧
  (∀ u : Uplink, s.selector.mode = .hold → p.uplink.toNat = uplinkCode u → p.addressing = 0 →
    (p.probePart ≠ 0 → p.judgePart = 0 →
      let carrying := max 100 (min 10000 p.probe.carrying.toNat)
      let standby := if u = .fibre then (s.cfg.probes.get u).standby else max 1000 (min 60000 p.probe.standby.toNat)
      let timeout := max 100 (min 2000 p.probe.timeout.toNat)
      ∃ t, exec (.setUplink m k p) s = .next t ∧
        AnsweredFrom { b with cfg := { s.cfg with probes := (s.cfg.probes.set u ⟨carrying, standby, timeout⟩) } } t k
          (if carrying = p.probe.carrying.toNat ∧ timeout = p.probe.timeout.toNat ∧ (u = .fibre ∨ standby = p.probe.standby.toNat)
            then .done else .clamped) (answer (s.judge u).verdict u)) ∧
    (p.probePart = 0 → p.judgePart ≠ 0 → p.judge.goodLoss.toNat < max 1 (min 32 p.judge.failLoss.toNat) →
      p.judge.reuse.toNat < max 1 (min 16000 p.judge.suppress.toNat) → s.undrained →
      let old := s.cfg.judges.get u
      let q : JudgeSettings := ⟨max 1 (min 8 p.judge.failRun.toNat), max 1 (min 32 p.judge.failLoss.toNat), p.judge.goodLoss.toNat,
        max 1 (min 32 p.judge.recoverRun.toNat), max 1 (min 1000 p.judge.delayLimit.toNat),
        max 1 (min 16000 p.judge.suppress.toNat), p.judge.reuse.toNat, max 1 (min 65535 p.judge.decay.toNat),
        if u = .fibre then old.bias else min 200 p.judge.bias.toNat⟩
      let inRange := q.failRun = p.judge.failRun.toNat ∧ q.failLoss = p.judge.failLoss.toNat ∧
        q.recoverRun = p.judge.recoverRun.toNat ∧ q.delayLimit = p.judge.delayLimit.toNat ∧ q.suppress = p.judge.suppress.toNat ∧
        q.decay = p.judge.decay.toNat ∧ (u = .fibre ∨ q.bias = p.judge.bias.toNat)
      let lit := decide (u = .fibre → s.links.f = true ∧ s.conditions.filtered.opticalLoss = false)
      let j := s.judge u
      ∃ t flagged, exec (.setUplink m k p) s = .next t ∧ t.cfg = { s.cfg with judges := s.cfg.judges.set u q } ∧
        Rejudged j (t.judge u) old q lit (b.after 1000) flagged ∧
        (∀ v, v ≠ u → t.judge v = { s.judge v with usable := (t.judge v).usable }) ∧ t.probers = s.probers ∧
        Answered t k (if inRange then .done else .clamped)
          [halves (verdictCode (t.judge u).verdict + 256 * boolCode (t.judge u).suppressed) (t.judge u).penalty] ∧
        (let moved := if (t.judge u).verdict = j.verdict then 0 else 1
          let added := if flagged = j.suppressed then 0 else 1
          let tells := fun (i : Nat) (n : Notice) => b.unread + i < 128 → t.noted (s.exchange.writeCount.toNat + i) n b.now
          let suppression := fun (was is : Bool) (cause : Nat) => (⟨.suppression, uplinkCode u, boolCode was, boolCode is,
            (t.judge u).penalty, q.suppress, q.reuse, cause⟩ : Notice)
          (moved = 1 → tells 0 ⟨.verdict, uplinkCode u, verdictCode j.verdict, verdictCode (t.judge u).verdict, 1, (t.judge u).penalty,
            j.window.countP (· == .lost), j.window.length⟩) ∧
          (added = 1 → tells 1 (suppression false true 0)) ∧
          ((t.judge u).suppressed ≠ flagged → tells (moved + added) (suppression flagged (t.judge u).suppressed 2))))) ∧
  (s.selector.mode = .hold → p.uplink = 0 → p.probePart = 0 → p.judgePart = 0 → apart → s.undrained →
    (p.addressing = 1 → (s.cfg.records.get .fibre).isSome →
      let lit := s.links.f = true ∧ s.conditions.filtered.opticalLoss = false
      ∃ t, exec (.setUplink m k p) s = .next t ∧ t.cfg = { s.cfg with records := s.cfg.records.set .fibre none } ∧
        (lit → (t.judge .fibre).verdict = .good) ∧ (¬ lit → (t.judge .fibre).verdict = .failed) ∧
        ((t.judge .fibre).usable = true ↔ lit ∧ (s.judge .fibre).suppressed = false) ∧ voided t .fibre ∧
        (∀ v, v ≠ .fibre → kept t v) ∧ t.framers = s.framers ∧ Answered t k .done (answer (t.judge .fibre).verdict .fibre)) ∧
    ∀ v, p.addressing = 2 → p.record.version.toNat = versionCode v →
      let changed := fun u : Uplink =>
        (u = .fibre ∧ s.cfg.records.get .fibre ≠ some (record v)) ∨ (s.cfg.siteId ≠ p.siteId ∧ (u = .fibre ∨ (s.cfg.records.get u).isSome))
      ∃ t, exec (.setUplink m k p) s = .next t ∧
        t.cfg = { s.cfg with records := s.cfg.records.set .fibre (some (record v)), siteId := p.siteId } ∧
        (∀ u, changed u → unknown t u ∧ voided t u) ∧ (∀ u, ¬ changed u → kept t u) ∧
        (∀ r : Radio, (changed r.uplink → emptied t r) ∧ (¬ changed r.uplink → t.framer r = s.framer r)) ∧
        Answered t k .done (answer (t.judge .fibre).verdict .fibre))

/-- SET_SELECTOR, SET_LEAD and SET_WATCH: the settings are brought to range, stored, and answered; nothing else changes. SET_SELECTOR is
held-only; SET_WATCH works conformity out anew and leaves the levels and the pending changes alone; turning CONFORMING into BROKEN it
hands over one WATCH_ALERT of subject 8, recorded or counted lost, before its answer, and otherwise raises nothing (R26 to R28). Its
conformity byte is a free value (log entry 16). -/
def Obligations.PlainSettingsAreStoredInRange : Prop := ∀ (s : State) (m : Moment) (k : Ticket), Posed s m k →
  (∀ p : RawSelector,
    let h := min 3600 p.returnHold.toNat
    let g := min 500 p.switchMargin.toNat
    let n := max 1 (min 10 p.switchSustain.toNat)
    (s.selector.mode = .steering → ∃ t, exec (.setSelector m k p) s = .next t ∧ AnsweredFrom (s.begin m) t k .wrongMode []) ∧
    (s.selector.mode = .hold → ∃ t, exec (.setSelector m k p) s = .next t ∧
      AnsweredFrom { s.begin m with cfg := { s.cfg with selector := ⟨h, g, n⟩ } } t k
        (if h = p.returnHold.toNat ∧ g = p.switchMargin.toNat ∧ n = p.switchSustain.toNat then .done else .clamped)
        [word h, word g, word n])) ∧
  (∀ p : PerTier Word,
    let a := min 1000000 p.normal.toNat
    let l := min 1000000 p.lean.toNat
    let c := min 1000000 p.scarce.toNat
    let d := min 1000000 p.spent.toNat
    ∃ t, exec (.setLead m k p) s = .next t ∧ AnsweredFrom { s.begin m with cfg := { s.cfg with lead := ⟨a, l, c, d⟩ } } t k
      (if a = p.normal.toNat ∧ l = p.lean.toNat ∧ c = p.scarce.toNat ∧ d = p.spent.toNat then .done else .clamped)
      [word a, word l, word c, word d]) ∧
  ∀ p : RawWatch,
    let conforming := decide ((inputBits s.conditions.filtered ^^^ p.pattern) &&& p.mask = 0)
    ∃ t o, exec (.setWatch m k p) s = .next t ∧ (o = .clamped ↔ ∃ i, 255 < (p.filters.get i).toNat) ∧ (o = .done ∨ o = .clamped) ∧
      t.cfg.watch.mask = p.mask ∧ t.cfg.watch.pattern = p.pattern ∧
      (∀ i, t.cfg.watch.filters.get i = min 255 (p.filters.get i).toNat) ∧ t.cfg = { s.cfg with watch := t.cfg.watch } ∧
      t.conditions = { s.conditions with conforming := conforming } ∧
      Answered t k o [bytesWord (Config.conformityCode conforming).toNat (inputBits s.conditions.filtered).toNat 0 0] ∧
      t.selector = s.selector ∧ t.radios = s.radios ∧ t.judges = s.judges ∧ t.flows = s.flows ∧ t.walk = s.walk ∧
      (let levels := inputBits s.conditions.filtered
        let set : State := { s.begin m with cfg := t.cfg, conditions := { s.conditions with conforming := conforming } }
        let words := [bytesWord (Config.conformityCode conforming).toNat levels.toNat 0 0]
        (s.conditions.conforming = false ∨ conforming = true → AnsweredFrom set t k o words) ∧
        (s.conditions.conforming = true → conforming = false → ∃ x, AnsweredFrom x t k o words ∧
          Recorded set x ⟨.watchAlert, 8, levels.toNat, levels.toNat, p.mask.toNat, p.pattern.toNat,
            ((levels ^^^ p.pattern) &&& p.mask).toNat, 0⟩))

/-- SET_CLASS: held-only; an unknown class, mode or admission limit is refused; a record is stored in range, VOICE's admission limits as they
are fixed, its bucket lowered to the new depth, and a walk triggered. -/
def Obligations.SetClassStoresTheRecord : Prop := ∀ (s : State) (m : Moment) (k : Ticket) (code : Word) (p : RawClass), Posed s m k →
  (s.selector.mode = .steering → ∃ t, exec (.setClass m k code p) s = .next t ∧ AnsweredFrom (s.begin m) t k .wrongMode []) ∧
  (s.selector.mode = .hold → (3 < code.toNat ∨ 1 < p.mode.toNat ∨
      (code ≠ 0 ∧ (3 < p.radioAdmission.toNat ∨ 2 < p.powerAdmission.toNat))) →
    ∃ t, exec (.setClass m k code p) s = .next t ∧ AnsweredFrom (s.begin m) t k .badParameter []) ∧
  ∀ c mode a q, s.selector.mode = .hold → code.toNat = classCode c → p.mode.toNat = policerModeCode mode →
    (c = .voice → a = .spent ∧ q = .reserve) →
    (c ≠ .voice → p.radioAdmission.toNat = allowanceTierCode a ∧ p.powerAdmission.toNat = powerTierCode q) →
    let idle := max 1 (min 65535 p.idleTimeout.toNat)
    let own := min 1000000 p.ownCeiling.toNat
    let burst := max 1500 (min 1048576 p.burst.toNat)
    let bucket := s.policer.buckets.get c
    ∃ t, exec (.setClass m k code p) s = .next t ∧
      AnsweredFrom
        ({ s.begin m with
          cfg := { s.cfg with classes := s.cfg.classes.set c ⟨idle, a, q, mode, own, burst⟩ }
          policer := { s.policer with
            buckets := (s.policer.buckets.set c { bucket with tokens := min bucket.tokens (8 * burst) }) } }.walkTrigger .classApplied)
        t k (if idle = p.idleTimeout.toNat ∧ own = p.ownCeiling.toNat ∧ burst = p.burst.toNat then .done else .clamped)
        [code, word idle, bytesWord (allowanceTierCode a) (powerTierCode q) (policerModeCode mode) 0, word own, word burst]

/-- SET_RULE in either mode: an index past 31 or an identifier out of range is refused; a rule with VALID clear is stored invalid; a valid
one is stored with its port range, DSCP and prefix length brought to range. Nothing else changes. -/
def Obligations.SetRuleStoresTheRule : Prop := ∀ (s : State) (m : Moment) (k : Ticket) (index : Word) (p : RawRule), Posed s m k →
  ((31 < index.toNat ∨ p.valid = true ∧ (3 < p.protocol.toNat ∨ 3 < p.trafficClass.toNat ∨ p.hasPin = true ∧ 2 < p.pin.toNat ∨
      p.hasDest = true ∧ p.destVersion ≠ 4 ∧ p.destVersion ≠ 6)) →
    ∃ t, exec (.setRule m k index p) s = .next t ∧ AnsweredFrom (s.begin m) t k .badParameter []) ∧
  (index.toNat ≤ 31 → p.valid = false → ∃ t, exec (.setRule m k index p) s = .next t ∧
    AnsweredFrom { s.begin m with cfg := { s.cfg with rules := s.cfg.rules.set index.toNat none } } t k .done
      [index, 0, 0x00030000, 0, 0, 0, 0, 0, 0]) ∧
  ∀ proto cls pin dest, index.toNat ≤ 31 → p.valid = true → p.protocol.toNat = ruleProtocolCode proto →
    p.trafficClass.toNat = classCode cls → (p.hasPin = false → pin = none) → (p.hasPin = true → ∃ u, pin = some u ∧ p.pin.toNat = uplinkCode u) →
    (p.hasDest = false → dest = none) →
    (p.hasDest = true → ∃ v, p.destVersion.toNat = versionCode v ∧
      dest = some ⟨v, min (prefixMax v) p.destLength.toNat, addressOf v p.destAddress⟩) →
    let rule : Rule := ⟨proto, if p.hasPorts then some (p.portLow.toNat, max p.portLow.toNat p.portHigh.toNat) else none,
      if p.hasDscp then some (min 63 p.dscp.toNat) else none, dest, cls, pin⟩
    let clamped := (p.hasPorts = true ∧ p.portHigh.toNat < p.portLow.toNat) ∨ (p.hasDscp = true ∧ 63 < p.dscp.toNat) ∨
      (p.hasDest = true ∧ ∃ v, dest.map (·.version) = some v ∧ prefixMax v < p.destLength.toNat)
    ∃ t o, exec (.setRule m k index p) s = .next t ∧ (o = .clamped ↔ clamped) ∧ (o = .done ∨ o = .clamped) ∧
      AnsweredFrom { s.begin m with cfg := { s.cfg with rules := s.cfg.rules.set index.toNat (some rule) } } t k o
        (ruleWords index.toNat (some rule))

/-- PIN in either mode: a bad code or version is refused, an unknown key is NOT_FOUND, and a known entry takes the pin and is placed at once,
its counts in the same step. The two words 0 of NOT_FOUND are read from R185 (log entry 30). -/
def Obligations.PinPlacesTheEntryAtOnce : Prop := ∀ (s : State) (m : Moment) (k : Ticket) (key : RawKey) (code : Byte), Posed s m k →
  ((3 < code.toNat ∨ key.version ≠ 4 ∧ key.version ≠ 6) → ∃ t, exec (.pin m k key code) s = .next t ∧
    AnsweredFrom (s.begin m) t k .badParameter []) ∧
  ∀ v pin, key.version.toNat = versionCode v → code.toNat = assignmentCode pin →
    let f : FlowKey := ⟨v, addressOf v key.source, addressOf v key.dest, key.protocol, key.srcPort, key.dstPort⟩
    (entryOfKey s.flows.entries f = none → ∃ t, exec (.pin m k key code) s = .next t ∧
      AnsweredFrom (s.begin m) t k .notFound [0, 0]) ∧
    ∀ i e, entryOfKey s.flows.entries f = some (i, e) → s.undrained →
      let p := s.place e.trafficClass pin e.assigned
      ∃ t, exec (.pin m k key code) s = .next t ∧
        t.flows.entries = replaceEntry s.flows.entries i { e with
          pin := pin, assigned := p.assigned, state := p.state
          moves := if p.assigned = e.assigned then e.moves else min 65535 (e.moves + 1) } ∧
        t.flows.counts = s.flows.counts.moved e.assigned p.assigned ∧ t.flows.counters = s.flows.counters ∧
        Answered t k .done [halves i (classCode e.trafficClass),
          bytesWord (assignmentCode p.assigned) (entryStateCode p.state) (assignmentCode pin) 0]

/-- READ_FLOWS and FLOW_COPY_STEP. The request is taken in either mode: BUSY while a copy runs, an empty answer for a start past 1023, else
the copy begins with max brought to range and the request in flight, and nothing is answered yet. A step passes a free index over; a live
entry's record, 80 bytes laid out by R186, is written at the buffer address plus 80 × the records so far, no other byte of host memory
changes, and the copy goes on with the next index. With the last index, free or live, and with the record that reaches max it ends, and the
READ_FLOWS that waits is answered DONE, or CLAMPED where max was brought to range, with the records written and the next index, 1024 past
the last (R126). A record whose write fails stops the exchange, and the copy with it, unanswered (R126, R164). -/
def Obligations.ReadFlowsCopiesRecords : Prop := ∀ (s : State) (m : Moment),
  (∀ (i : Nat) (e : FlowEntry),
    let code := fun a : Option Uplink => match a with
      | some u => BitVec.ofNat 8 (uplinkCode u)
      | none => 3
    flowRecord i e = leBytes 2 i ++ [if e.key.version = .v4 then 4 else 6, e.key.protocol, BitVec.ofNat 8 (classCode e.trafficClass),
      code e.assigned, BitVec.ofNat 8 (entryStateCode e.state), code e.pin] ++ addressBytes e.key.source ++ addressBytes e.key.dest ++
      leBytes 2 e.key.srcPort.toNat ++ leBytes 2 e.key.dstPort.toNat ++ leBytes 2 e.moves ++ [0, 0] ++ leBytes 4 e.created.toNat ++
      leBytes 4 e.lastSeen.toNat ++ leBytes 8 e.upBytes.toNat ++ leBytes 8 e.downBytes.toNat ++ [0, 0, 0, 0, 0, 0, 0, 0]) ∧
  (∀ (k : Ticket) (start max' : Word) (buffer : BitVec 64), Posed s m k →
    let n := max 1 (min 1024 max'.toNat)
    ((s.inFlightOf .copy).isSome → ∃ t, exec (.readFlows m k start max' buffer) s = .next t ∧ AnsweredFrom (s.begin m) t k .busy []) ∧
    ((s.inFlightOf .copy) = none → 1023 < start.toNat → ∃ t, exec (.readFlows m k start max' buffer) s = .next t ∧
      AnsweredFrom (s.begin m) t k (if n = max'.toNat then .done else .clamped) [0, 1024]) ∧
    ((s.inFlightOf .copy) = none → start.toNat ≤ 1023 →
      exec (.readFlows m k start max' buffer) s = .next { s.begin m with exchange := { s.exchange with
        inFlight := s.exchange.inFlight ++ [⟨.copy, k.slot, k.tag, true⟩]
        copy := some ⟨start.toNat, 0, n, buffer, decide (n ≠ max'.toNat)⟩ } })) ∧
  (∀ c e, s.phase = .steering → s.running = true → s.deliveries = [] → s.exchange.copy = some c →
    entryAt s.flows.entries c.cursor = some e → m.failing = some 0 → exec (.flowCopyStep m) s = .next (s.begin m).failed) ∧
  (s.phase = .steering → s.running = true → m.failing = none → memoryWf s.memory = true → s.deliveries = [] →
    let ended := { s.exchange with copy := none, inFlight := s.exchange.inFlight.filter (fun f => f.owner != .copy) }
    let waits := fun k : Ticket => s.inFlightOf .copy = some ⟨.copy, k.slot, k.tag, true⟩
    let taken := fun k : Ticket => (s.begin m).token k.slot.val = tokenTaken
    let outcome := fun c : FlowCopy => if c.clamped = true then RequestOutcome.clamped else .done
    (s.exchange.copy = none → exec (.flowCopyStep m) s = .next (s.begin m)) ∧
    ∀ c, s.exchange.copy = some c →
      (entryAt s.flows.entries c.cursor = none → (1023 ≤ c.cursor ∨ c.max ≤ c.written) →
        ∃ t, exec (.flowCopyStep m) s = .next t ∧ t.exchange.copy = none ∧ t.inFlightOf .copy = none ∧ t.flows = s.flows ∧
          ∀ k : Ticket, waits k → taken k → AnsweredFrom { s.begin m with exchange := ended } t k (outcome c)
            [word c.written, word (c.cursor + 1)]) ∧
      (∀ e, entryAt s.flows.entries c.cursor = some e → (1023 ≤ c.cursor ∨ c.max ≤ c.written + 1) →
        let place := c.buffer.toNat + 80 * c.written
        ∃ t memory, exec (.flowCopyStep m) s = .next t ∧ t.exchange.copy = none ∧ t.inFlightOf .copy = none ∧ t.flows = s.flows ∧
          readBytes memory place 80 = flowRecord c.cursor e ∧
          (∀ a, ¬ among place 80 a → readByte memory a = readByte (s.begin m).memory a) ∧
          ∀ k : Ticket, waits k → taken k → (∀ j, j < 80 → ¬ among (s.slotAddress k) 128 (place + j)) →
            AnsweredFrom { s.begin m with memory := memory, exchange := ended } t k (outcome c)
              [word (c.written + 1), word (c.cursor + 1)]) ∧
      (c.cursor + 1 < 1024 → entryAt s.flows.entries c.cursor = none → c.written < c.max →
        exec (.flowCopyStep m) s = .next { s.begin m with
          exchange := { s.exchange with copy := some { c with cursor := c.cursor + 1 } } }) ∧
      ∀ e, c.cursor + 1 < 1024 → entryAt s.flows.entries c.cursor = some e → c.written + 1 < c.max →
        ∃ t, exec (.flowCopyStep m) s = .next t ∧
          t = { s.begin m with
            memory := t.memory
            exchange := { s.exchange with copy := some { c with cursor := c.cursor + 1, written := c.written + 1 } } } ∧
          readBytes t.memory (c.buffer.toNat + 80 * c.written) 80 = flowRecord c.cursor e ∧
          ∀ a, ¬ among (c.buffer.toNat + 80 * c.written) 80 a → readByte t.memory a = readByte (s.begin m).memory a)

/-- PROBE_BURST and BURST_PROBE_DUE. A probe of a burst joins the list marked, and its datagram leaves by the uplink's port. The request is
taken in either mode: an unknown uplink is refused, BUSY while a burst runs on it, NOT_FOUND when it is not eligible by R53; else the burst
begins with its first probe sent and marked, and the request is in flight. A due burst probe: an eligible uplink with room is sent one
marked probe, and the next is due 100 ms later unless it was the last of the count; of a full list the oldest entry is first resolved LOST
(R56, R64); on an uplink that is not eligible the rest is given up, and with no marked entry left the burst ends and is answered DONE, or
CLAMPED where the count was brought to range, with its tally (R65); its end at an echo or an expiry stands in O10, O11, O18 and O19. The
words of NOT_FOUND are read from R185 (log entry 30). -/
def Obligations.BurstsSendMarkedProbes : Prop := ∀ (s : State) (m : Moment),
  let clock := (s.begin m).clock.micros
  let entry := fun u : Uplink => (⟨(s.prober u).sequence, clock.setWidth 16, clock,
    clock + BitVec.ofNat 32 ((s.cfg.probes.get u).timeout * 1000), true⟩ : Outstanding)
  let frame := fun (u : Uplink) (c : AddressRecord) => (u.port, outerFrame u.port c (outerDatagram c (Config.outerEcn []).toNat
    (probeHeader u (s.carrySequence u) s.cfg.siteId (s.prober u).sequence (clock.setWidth 16)).bytes))
  let retired := fun (t : State) (u : Uplink) (e : Outstanding) (rest : List Outstanding) (x : Burst) =>
    t.prober u = { s.prober u with
      outstanding := rest.filter (fun y => y.sequence != e.sequence) ++ [entry u]
      sequence := (s.prober u).sequence + 1
      counters := { (s.prober u).counters with
        lost := min 65535 ((s.prober u).counters.lost + 1), sent := min 65535 ((s.prober u).counters.sent + 1) }
      burst := some (if e.marked then { x with lost := x.lost + 1 } else x) } ∧
    (∀ c, s.cfg.records.get u = some c → t.wire = s.wire ++ [frame u c]) ∧ (∀ v, v ≠ u → t.prober v = s.prober v) ∧
    ((t.judge u).verdict ≠ .failed → (t.judge u).window =
      (if 32 ≤ (s.judge u).window.length then (s.judge u).window.tail else (s.judge u).window) ++ [.lost])
  (∀ u, s.eligible u = true ↔ s.links.get u.port = true ∧ (s.cfg.records.get u).isSome = true ∧ ∀ r : Radio, u = r.uplink →
    ((s.radio r).state = .standby ∨ (s.radio r).state = .carrying) ∧ ((s.meter r).tier ≠ .spent ∨ (s.radio r).state = .carrying)) ∧
  (∀ (k : Ticket) (code count : Word), Posed s m k →
    let n := max 1 (min 16 count.toNat)
    (2 < code.toNat → ∃ t, exec (.probeBurst m k code count) s = .next t ∧ AnsweredFrom (s.begin m) t k .badParameter []) ∧
    ∀ u, code.toNat = uplinkCode u →
      ((s.prober u).burst.isSome → ∃ t, exec (.probeBurst m k code count) s = .next t ∧ AnsweredFrom (s.begin m) t k .busy []) ∧
      ((s.prober u).burst = none → s.eligible u = false → ∃ t, exec (.probeBurst m k code count) s = .next t ∧
        AnsweredFrom (s.begin m) t k .notFound [bytesWord (uplinkCode u) n 0 0, 0, 0, 0]) ∧
      ((s.prober u).burst = none → s.eligible u = true → (s.prober u).outstanding.length < 8 →
        ∃ t, exec (.probeBurst m k code count) s = .next t ∧
          (t.prober u).burst = some ⟨n, 1, if n ≤ 1 then none else some ((s.begin m).after 100), 0, 0, 0, 0, decide (n ≠ count.toNat)⟩ ∧
          (t.prober u).outstanding = (s.prober u).outstanding ++ [entry u] ∧ (t.prober u).sequence = (s.prober u).sequence + 1 ∧
          (∀ c, s.cfg.records.get u = some c → t.wire = s.wire ++ [frame u c]) ∧ (∀ v, v ≠ u → t.prober v = s.prober v) ∧
          (t.prober u).counters = { (s.prober u).counters with sent := min 65535 ((s.prober u).counters.sent + 1) } ∧
          t.exchange.inFlight = s.exchange.inFlight ++ [⟨.burst u, k.slot, k.tag, true⟩] ∧
          t.judges = s.judges ∧ t.radios = s.radios ∧ t.token k.slot.val = tokenTaken) ∧
      (∀ e rest, (s.prober u).burst = none → s.eligible u = true → (s.prober u).outstanding = e :: rest → 7 ≤ rest.length → s.undrained →
        ∃ t, exec (.probeBurst m k code count) s = .next t ∧ t.exchange.inFlight = s.exchange.inFlight ++ [⟨.burst u, k.slot, k.tag, true⟩] ∧
          retired t u e rest ⟨n, 1, if n ≤ 1 then none else some ((s.begin m).after 100), 0, 0, 0, 0, decide (n ≠ count.toNat)⟩)) ∧
  ∀ (u : Uplink) (b : Burst) (due : Word),
    s.phase = .steering → (s.prober u).burst = some b → b.nextDue = some due → reached (s.begin m).now due = true → s.deliveries = [] →
    (s.eligible u = true → (s.prober u).outstanding.length < 8 → ∃ t, exec (.burstProbeDue m u) s = .next t ∧
      (t.prober u).burst = some { b with
        sent := b.sent + 1
        nextDue := if b.count ≤ b.sent + 1 then none else some ((s.begin m).after 100) } ∧
      (t.prober u).sequence = (s.prober u).sequence + 1 ∧
      (t.prober u).counters = { (s.prober u).counters with sent := min 65535 ((s.prober u).counters.sent + 1) } ∧
      (t.prober u).outstanding = (s.prober u).outstanding ++ [entry u] ∧ (t.prober u).timer = (s.prober u).timer ∧
      (∀ c, s.cfg.records.get u = some c → t.wire = s.wire ++ [frame u c]) ∧ ∀ v, v ≠ u → t.prober v = s.prober v) ∧
    (∀ e rest, s.eligible u = true → (s.prober u).outstanding = e :: rest → 7 ≤ rest.length → s.undrained →
      ∃ t, exec (.burstProbeDue m u) s = .next t ∧ retired t u e rest { b with
        sent := b.sent + 1
        nextDue := if b.count ≤ b.sent + 1 then none else some ((s.begin m).after 100) }) ∧
    (s.eligible u = false → ((s.prober u).outstanding.any (·.marked)) = true →
      exec (.burstProbeDue m u) s = .next ((s.begin m).setProber u { s.prober u with burst := some { b with nextDue := none } })) ∧
    (s.eligible u = false → ((s.prober u).outstanding.any (·.marked)) = false → ∃ t, exec (.burstProbeDue m u) s = .next t ∧
      t.prober u = { s.prober u with burst := none } ∧ t.wire = s.wire ∧ BurstEnded s (s.begin m) t u { b with nextDue := none })

/-- RADIO_POWER WARM in either mode, by the radio's state (R42): an OFF radio warms and the request is pending, or is refused by the RESERVE
limit, which holds while the other radio is out of OFF and not draining (R37); a warm-up in progress takes the request once; a ready radio
is answered DONE; a drain is cleared first. RADIO_STATE is raised with cause HOST_WARM or DRAIN_CLEARED (R48), first of the notices of the
step (log entry 3). -/
def Obligations.RadioPowerWarmByState : Prop := ∀ (s : State) (m : Moment) (k : Ticket) (code : Word), Posed s m k →
  (code.toNat ≠ 1 → code.toNat ≠ 2 → ∃ t, exec (.radioPowerWarm m k code) s = .next t ∧ AnsweredFrom (s.begin m) t k .badParameter []) ∧
  ∀ r : Radio, code.toNat = radioCode r →
    let b := s.begin m
    let words := fun d : Bool => [bytesWord (radioCode r) (radioStateCode (s.radio r).state) (boolCode d) 0, 0]
    let pending : Exchange := { s.exchange with inFlight := s.exchange.inFlight ++ [⟨.warm r, k.slot, k.tag, true⟩] }
    (s.limitRefuses r = true ↔ s.conditions.powerTier = .reserve ∧ (s.radio r.other).state ≠ .off ∧ (s.radio r.other).draining = false) ∧
    ((s.radio r).state = .off → s.undrained → s.limitRefuses r = false → ∃ t, exec (.radioPowerWarm m k code) s = .next t ∧
      t.radio r = { s.radio r with
        state := .warming, poweredAt := some b.now, poweredWraps := b.clock.wraps
        warmMin := some (b.after ((s.cfg.timers.get r).warmMin * 1000))
        attachLimit := some (b.after ((s.cfg.timers.get r).attachLimit * 1000)), retryWait := none } ∧
      (t.radio r).powerOutput = true ∧ t.exchange.inFlight = pending.inFlight ∧ t.token k.slot.val = tokenTaken ∧ t.probers = s.probers ∧
      (b.unread < 128 → t.noted s.exchange.writeCount.toNat
        ⟨.radioState, radioCode r, radioStateCode .off, radioStateCode .warming, 0, 0, s.radioCount r, 0⟩ b.now)) ∧
    ((s.radio r).state = .off → (s.radio r).draining = false → s.limitRefuses r = true →
      ∃ t, exec (.radioPowerWarm m k code) s = .next t ∧ AnsweredFrom b t k .tierLimit (words false)) ∧
    ((s.radio r).state = .warming → (s.radio r).draining = false → s.inFlightOf (.warm r) = none →
      exec (.radioPowerWarm m k code) s = .next { b with exchange := pending }) ∧
    ((s.radio r).state = .warming → (s.radio r).draining = false → (s.inFlightOf (.warm r)).isSome →
      ∃ t, exec (.radioPowerWarm m k code) s = .next t ∧ AnsweredFrom b t k .busy []) ∧
    ((s.radio r).state.ready = true → (s.radio r).draining = false → ∃ t, exec (.radioPowerWarm m k code) s = .next t ∧
      AnsweredFrom b t k .done (words false)) ∧
    ((s.radio r).draining = true → s.limitRefuses r = true → ∃ t, exec (.radioPowerWarm m k code) s = .next t ∧
      AnsweredFrom b t k .tierLimit (words true)) ∧
    ((s.radio r).draining = true → (s.radio r).state.ready = true → s.limitRefuses r = false → (s.radio r.other).draining = false →
      ∃ t, exec (.radioPowerWarm m k code) s = .next t ∧
        (t.radio r).draining = false ∧ (t.radio r).state.ready = true ∧ Answered t k .done (words false) ∧
        (b.unread < 128 → t.noted s.exchange.writeCount.toNat ⟨.radioState, radioCode r, radioStateCode (s.radio r).state,
          radioStateCode (s.radio r).state, 0, 12, s.radioCount r, 0⟩ b.now))

/-- RADIO_POWER OFF in either mode (R43): refused with IN_USE while the radio is the carrier and no other uplink is usable; an OFF radio is
answered DONE; a radio with no entry that is not the carrier goes OFF, which ends a burst on it (R66); any other is drained and keeps its
power, and DONE shows its draining flag; RADIO_STATE says so with cause HOST_OFF (R48), first of the notices of the step (log entry 3). A
pending WARM is answered SUPERSEDED with the state then and the time since power-on in each of these but the IN_USE row (R42), unless it
waits in the slot of the OFF itself. -/
def Obligations.RadioPowerOffEndsOrDrains : Prop := ∀ (s : State) (m : Moment) (k : Ticket) (code : Word), Posed s m k →
  (code.toNat ≠ 1 → code.toNat ≠ 2 → ∃ t, exec (.radioPowerOff m k code) s = .next t ∧ AnsweredFrom (s.begin m) t k .badParameter []) ∧
  ∀ r : Radio, code.toNat = radioCode r →
    let words := fun (x : RadioState) (d : Bool) => [bytesWord (radioCode r) (radioStateCode x) (boolCode d) 0, 0]
    let ended := fun (t : State) (x : RadioState) (d : Bool) => ∀ f, Awaited s m r f → f.slot ≠ k.slot →
      t.inFlightOf (.warm r) = none ∧ Answered t k .done (words x d) ∧ Answered t ⟨f.slot, f.tag⟩ .superseded
        [bytesWord (radioCode r) (radioStateCode x) (boolCode d) 0, word ((s.begin m).poweredFor r)]
    ((s.radio r).state ≠ .off → s.selector.carrier = r.uplink → s.usable .fibre = false → s.usable r.other.uplink = false →
      ∃ t, exec (.radioPowerOff m k code) s = .next t ∧
        AnsweredFrom (s.begin m) t k .inUse (words (s.radio r).state (s.radio r).draining)) ∧
    ((s.radio r).state = .off → s.inFlightOf (.warm r) = none → ∃ t, exec (.radioPowerOff m k code) s = .next t ∧
      AnsweredFrom (s.begin m) t k .done (words .off (s.radio r).draining)) ∧
    ((s.radio r).state = .off → ∃ t, exec (.radioPowerOff m k code) s = .next t ∧ ended t .off (s.radio r).draining ∧
      t.radios = s.radios ∧ t.judges = s.judges) ∧
    ((s.radio r).state ≠ .off → s.selector.carrier = .fibre → s.usable .fibre = true → s.selector.stranded = false → s.radioCount r = 0 →
      (∀ g, s.inFlightOf (.burst r.uplink) = some g → g.slot ≠ k.slot ∧ ∀ f, s.inFlightOf (.warm r) = some f → f.slot ≠ g.slot) →
      s.undrained → ∃ t, exec (.radioPowerOff m k code) s = .next t ∧
        t.radio r = { s.radio r with state := .off, draining := false, warmMin := none, attachLimit := none, coolHold := none } ∧
        (t.radio r).powerOutput = false ∧ (t.judge r.uplink).verdict = .unknown ∧ ended t .off false ∧
        ((s.radio r).state.ready = true → ∀ x, (s.prober r.uplink).burst = some x → BurstEnded s (s.begin m) t r.uplink x) ∧
        (s.inFlightOf (.warm r) = none → Answered t k .done (words .off false)) ∧
        ((s.begin m).unread < 128 → t.noted s.exchange.writeCount.toNat
          ⟨.radioState, radioCode r, radioStateCode (s.radio r).state, radioStateCode .off, 0, 8, 0, 0⟩ (s.begin m).now)) ∧
    ((s.radio r).state ≠ .off → (s.selector.carrier = r.uplink → s.usable .fibre = true ∨ s.usable r.other.uplink = true) →
      (s.selector.carrier = r.uplink ∨ 0 < s.radioCount r) → ∃ t, exec (.radioPowerOff m k code) s = .next t ∧
        (0 < s.radioCount r → (t.radio r).draining = true ∧ (t.radio r).powerOutput = true) ∧ Steady (s.begin m) t ∧
        ended t (s.radio r).state true ∧
        (s.inFlightOf (.warm r) = none → Answered t k .done (words (s.radio r).state true)) ∧
        ((s.radio r).draining = false → (s.begin m).unread < 128 → t.noted s.exchange.writeCount.toNat ⟨.radioState, radioCode r,
          radioStateCode (s.radio r).state, radioStateCode (s.radio r).state, 1, 8, s.radioCount r, 0⟩ (s.begin m).now))

/-- SET_RADIO_TIMERS: held-only; an unknown radio or policy is refused; the values are stored in range. A policy that becomes COLD starts
cool_hold in STANDBY; one that becomes WARM stops it, and warms an OFF radio that the RESERVE limit of R37 does not hold back and no
retry_wait does. -/
def Obligations.SetRadioTimersActsOnThePolicy : Prop := ∀ (s : State) (m : Moment) (k : Ticket) (code : Word) (p : RawTimers),
  Posed s m k →
  (s.selector.mode = .steering → ∃ t, exec (.setRadioTimers m k code p) s = .next t ∧ AnsweredFrom (s.begin m) t k .wrongMode []) ∧
  (s.selector.mode = .hold → ((code.toNat ≠ 1 ∧ code.toNat ≠ 2) ∨ 1 < p.policy.toNat) →
    ∃ t, exec (.setRadioTimers m k code p) s = .next t ∧ AnsweredFrom (s.begin m) t k .badParameter []) ∧
  ∀ (r : Radio) (policy : Policy), s.selector.mode = .hold → code.toNat = radioCode r → p.policy.toNat = policyCode policy →
    let b := s.begin m
    let w := max 1 (min 300 p.warmMin.toNat)
    let a := max 10 (min 1800 p.attachLimit.toNat)
    let y := min 3600 p.retryWait.toNat
    let c := min 86400 p.coolHold.toNat
    let o : RequestOutcome :=
      if w = p.warmMin.toNat ∧ a = p.attachLimit.toNat ∧ y = p.retryWait.toNat ∧ c = p.coolHold.toNat then .done else .clamped
    let words := [code, word w, word a, word y, word c, p.policy]
    let cfg : Settings := { s.cfg with timers := s.cfg.timers.set r ⟨w, a, y, c, policy⟩ }
    (s.limitRefuses r = true ↔ s.conditions.powerTier = .reserve ∧ (s.radio r.other).state ≠ .off ∧ (s.radio r.other).draining = false) ∧
    (policy = (s.cfg.timers.get r).policy → ∃ t, exec (.setRadioTimers m k code p) s = .next t ∧
      AnsweredFrom { b with cfg := cfg } t k o words) ∧
    (policy = .cold → (s.cfg.timers.get r).policy = .warm → (s.radio r).state = .standby →
      ∃ t, exec (.setRadioTimers m k code p) s = .next t ∧
        AnsweredFrom { b with cfg := cfg, radios := s.radios.set r { s.radio r with coolHold := some (b.after (c * 1000)) } } t k o words) ∧
    (policy = .warm → (s.cfg.timers.get r).policy = .cold → (s.radio r).state ≠ .off →
      ∃ t, exec (.setRadioTimers m k code p) s = .next t ∧
        AnsweredFrom { b with cfg := cfg, radios := s.radios.set r { s.radio r with coolHold := none } } t k o words) ∧
    (policy = .warm → (s.cfg.timers.get r).policy = .cold → (s.radio r).state = .off → (s.radio r).retryWait = none →
      s.limitRefuses r = false → s.undrained → ∃ t, exec (.setRadioTimers m k code p) s = .next t ∧ t.cfg = cfg ∧
        (t.radio r).state = .warming ∧ (t.radio r).warmMin = some (b.after (w * 1000)) ∧
        (t.radio r).attachLimit = some (b.after (a * 1000)) ∧ Answered t k o words)

/-- SET_ALLOWANCE, OPEN_PERIOD and SET_REMAINING in either mode: an unknown radio and an inconsistent pair are refused; A and the fractions
are stored in range and R is no higher than A; a new period sets R to A and clears used and overage; R takes a value no higher than A; the
tier is derived anew by the rows of R147 (NORMAL with A = 0; SPENT with R = 0; SCARCE and LEAN up to their marks), a walk triggered and
ALLOWANCE_TIER raised when it changes (R149), and the answer shows the meter. -/
def Obligations.AllowanceRequestsSetTheMeter : Prop := ∀ (s : State) (m : Moment) (k : Ticket) (code : Word) (p : RawMeter)
    (value : BitVec 64), Posed s m k →
  (code.toNat ≠ 1 → code.toNat ≠ 2 →
    (∃ t, exec (.setAllowance m k code p) s = .next t ∧ AnsweredFrom (s.begin m) t k .badParameter []) ∧
    (∃ t, exec (.openPeriod m k code) s = .next t ∧ AnsweredFrom (s.begin m) t k .badParameter []) ∧
    ∃ t, exec (.setRemaining m k code value) s = .next t ∧ AnsweredFrom (s.begin m) t k .badParameter []) ∧
  ∀ r : Radio, code.toNat = radioCode r →
    let lean := max 1 (min 255 p.leanFrac.toNat)
    let allowance := min (2 ^ 40 - 1) p.allowance.toNat
    let x := s.meter r
    let tierOf := fun (q : MeterSettings) (n : Nat) => if q.allowance = 0 then AllowanceTier.normal
      else if n = 0 then .spent
      else if n ≤ q.allowance * q.scarceFrac / 256 then .scarce
      else if n ≤ q.allowance * q.leanFrac / 256 then .lean
      else .normal
    let c := s.cfg.meters.get r
    let words := fun (q : MeterSettings) (y : Meter) =>
      [bytesWord (radioCode r) (allowanceTierCode y.tier) q.leanFrac q.scarceFrac, word q.allowance, word (q.allowance / 2 ^ 32),
        word y.remaining, word (y.remaining / 2 ^ 32), word y.used, word (y.used / 2 ^ 32), word y.overage, word (y.overage / 2 ^ 32)]
    let done := fun (t : State) (q : MeterSettings) (remaining used overage : Nat) (cause : Nat) (o : RequestOutcome) =>
      t.meter r = ⟨remaining, used, overage, tierOf q remaining⟩ ∧ t.meter r.other = s.meter r.other ∧
      t.cfg = { s.cfg with meters := s.cfg.meters.set r q } ∧ Answered t k o (words q (t.meter r)) ∧
      (tierOf q remaining = x.tier → t.walk = s.walk) ∧ (tierOf q remaining ≠ x.tier → t.walk.isSome) ∧
      (tierOf q remaining ≠ x.tier → (s.begin m).unread < 128 → t.noted s.exchange.writeCount.toNat
        ⟨.allowanceTier, radioCode r, allowanceTierCode x.tier, allowanceTierCode (tierOf q remaining),
          min (remaining / 1024) (2 ^ 32 - 1), q.allowance / 1024, cause, 0⟩ (s.begin m).now) ∧
      t.radios = s.radios ∧ t.judges = s.judges ∧ t.selector = s.selector ∧ t.flows = s.flows
    (lean ≤ p.scarceFrac.toNat → ∃ t, exec (.setAllowance m k code p) s = .next t ∧ AnsweredFrom (s.begin m) t k .badParameter []) ∧
    (p.scarceFrac.toNat < lean → ∃ t, exec (.setAllowance m k code p) s = .next t ∧
      done t ⟨allowance, lean, p.scarceFrac.toNat⟩ (min x.remaining allowance) x.used x.overage 2
        (if allowance = p.allowance.toNat ∧ lean = p.leanFrac.toNat then .done else .clamped)) ∧
    (∃ t, exec (.openPeriod m k code) s = .next t ∧ done t c c.allowance 0 0 3 .done) ∧
    ∃ t, exec (.setRemaining m k code value) s = .next t ∧
      done t c (min (min value.toNat (2 ^ 40 - 1)) c.allowance) x.used x.overage 4
        (if value.toNat ≤ 2 ^ 40 - 1 ∧ value.toNat ≤ c.allowance then .done else .clamped)

/-- STORE, STORE_BLOCK_WRITTEN and SUPPLY_FAULT: BUSY while one runs, SUPPLY_FAULT with 0 blocks and nothing written out of range; else the
copy is taken and the request is in flight, with the old image in place. Each completed write counts and leaves the header invalid; the
129th makes the copy the image and answers DONE. A fault, or a write at a reading out of range, stops the run with the image invalid and
answers the blocks written. Where the slot no longer reads TAKEN at the end, the whole image stands, the answer is abandoned and one
EXCHANGE_FAULT raised (R167). That the old image stands until the marker is written, and a fault before that ends it, is log entry 20's
reading of R180 and R181; the ms word of a stopped run is log entry 30's. -/
def Obligations.StoreRunsToTheWholeImage : Prop := ∀ (s : State) (m : Moment) (k : Ticket),
  let b := s.begin m
  (∀ r, s.phase = .steering → Undisturbed s m → s.store.running = some r → s.inFlightOf .store = some ⟨.store, k.slot, k.tag, true⟩ →
    b.token k.slot.val ≠ tokenTaken → m.supplyInRange = true → 128 ≤ r.written → ∃ t, exec (.storeBlockWritten m) s = .next t ∧
      Recorded { b with
          store := ⟨some r.copy, s.store.report, none⟩
          exchange := { s.exchange with inFlight := s.exchange.inFlight.filter (fun f => f.owner != .store) } } t
        ⟨.exchangeFault, k.slot.val, b.token k.slot.val, 0, 20, k.tag.toNat, 0, 0⟩) ∧
  (Posed s m k →
  (s.store.running.isSome → ∃ t, exec (.store m k) s = .next t ∧ AnsweredFrom b t k .busy []) ∧
  (s.store.running = none → m.supplyInRange = false → ∃ t, exec (.store m k) s = .next t ∧ AnsweredFrom b t k .supplyFault [0, 0]) ∧
  (s.store.running = none → m.supplyInRange = true → exec (.store m k) s = .next { b with
    store := { s.store with running := some ⟨imageOf s.cfg ⟨s.meters.a.remaining, s.meters.b.remaining⟩, 0, b.now⟩ }
    exchange := { s.exchange with inFlight := s.exchange.inFlight ++ [⟨.store, k.slot, k.tag, true⟩] } }) ∧
  (s.store.running = none → exec (.storeBlockWritten m) s = .next b ∧ exec (.supplyFault m) s = .next b) ∧
  ∀ r, s.store.running = some r →
    let ended : Exchange := { s.exchange with inFlight := s.exchange.inFlight.filter (fun f => f.owner != .store) }
    let stopped := fun t : State => AnsweredFrom { b with store := ⟨none, s.store.report, none⟩, exchange := ended } t k .supplyFault
      [word r.written, b.now - r.started]
    (m.supplyInRange = true → r.written < 128 → exec (.storeBlockWritten m) s = .next
      { b with store := ⟨none, s.store.report, some { r with written := r.written + 1 }⟩ }) ∧
    (s.inFlightOf .store = some ⟨.store, k.slot, k.tag, true⟩ →
      (m.supplyInRange = true → 128 ≤ r.written → ∃ t, exec (.storeBlockWritten m) s = .next t ∧
        AnsweredFrom { b with store := ⟨some r.copy, s.store.report, none⟩, exchange := ended } t k .done
          [word (r.written + 1), b.now - r.started]) ∧
      (m.supplyInRange = false → ∃ t, exec (.storeBlockWritten m) s = .next t ∧ stopped t) ∧
      ∃ t, exec (.supplyFault m) s = .next t ∧ stopped t))

/-- CANCEL in either mode (R170): a slot out of range or its own is refused; a slot that is not TAKEN is NOT_FOUND; a TAKEN slot with no
request, or with an in-flight STORE, is TOO_LATE. A queued request leaves the queue; a running copy ends (R126); a running burst ends and its
entries stay as ordinary probes (R67); a pending WARM's warm-up is withdrawn, the radio OFF when it has no entry and is not the carrier,
else draining in WARMING (R45): each is answered CANCELLED with its own words before the CANCEL is answered DONE. -/
def Obligations.CancelFindsItsTarget : Prop := ∀ (s : State) (m : Moment) (k : Ticket) (slot : Word), Posed s m k →
  let b := s.begin m
  let queued := s.exchange.queue.find? (fun q => q.slot.val == slot.toNat)
  let tied := s.exchange.inFlight.find? (fun f => f.tied && f.slot.val == slot.toNat)
  let others := fun o : TimedOwner => s.exchange.inFlight.filter (fun g => g.owner != o)
  let both := fun (t : State) (f : InFlight) (words : List Word) => Answered t ⟨f.slot, f.tag⟩ .cancelled words ∧ Answered t k .done []
  ((31 < slot.toNat ∨ slot.toNat = k.slot.val) → ∃ t, exec (.cancel m k slot) s = .next t ∧ AnsweredFrom b t k .badParameter []) ∧
  (slot.toNat ≤ 31 → slot.toNat ≠ k.slot.val →
    (b.token slot.toNat ≠ tokenTaken → ∃ t, exec (.cancel m k slot) s = .next t ∧ AnsweredFrom b t k .notFound []) ∧
    (b.token slot.toNat = tokenTaken →
      (queued = none → (tied = none ∨ tied.map (·.owner) = some .store) → ∃ t, exec (.cancel m k slot) s = .next t ∧
        AnsweredFrom b t k .tooLate []) ∧
      (∀ q, queued = some q → ∃ t, exec (.cancel m k slot) s = .next t ∧ Answered t k .done [] ∧
        Answered t ⟨q.slot, q.tag⟩ .cancelled [] ∧ OnlyExchange b t ∧
        t.exchange = { s.exchange with queue := s.exchange.queue.filter (fun x => x.slot.val != slot.toNat) }) ∧
      ∀ f, queued = none → tied = some f → s.inFlightOf f.owner = some f →
        (∀ c, f.owner = .copy → s.exchange.copy = some c → ∃ t, exec (.cancel m k slot) s = .next t ∧
          both t f [word c.written, word c.cursor] ∧ OnlyExchange b t ∧
          t.exchange = { s.exchange with copy := none, inFlight := others .copy }) ∧
        (∀ u x, f.owner = .burst u → (s.prober u).burst = some x → ∃ t, exec (.cancel m k slot) s = .next t ∧
          both t f [bytesWord (uplinkCode u) x.count x.sent 0, halves x.answered x.lost,
            word (if x.answered = 0 then 0 else x.smallest), word (if x.answered = 0 then 0 else x.sum / x.answered)] ∧
          t.prober u = { s.prober u with
            burst := none, outstanding := (s.prober u).outstanding.map (fun e => { e with marked := false }) } ∧
          (∀ v, v ≠ u → t.prober v = s.prober v) ∧ t.exchange = { s.exchange with inFlight := others (.burst u) } ∧
          t.judges = s.judges ∧ t.radios = s.radios ∧ Steady b t) ∧
        ∀ r, f.owner = .warm r → (s.radio r).state = .warming →
          let powered := word (b.poweredFor r)
          (s.radioCount r = 0 → s.selector.carrier = .fibre → s.usable .fibre = true → s.selector.stranded = false → s.undrained →
            ∃ t, exec (.cancel m k slot) s = .next t ∧
              t.radio r = { s.radio r with state := .off, draining := false, warmMin := none, attachLimit := none, coolHold := none } ∧
              both t f [bytesWord (radioCode r) 0 0 0, powered] ∧ t.exchange.inFlight = others (.warm r) ∧ Steady b t) ∧
          (0 < s.radioCount r → (s.radio r).draining = false → ∃ t, exec (.cancel m k slot) s = .next t ∧
            t.radio r = { s.radio r with draining := true } ∧ both t f [bytesWord (radioCode r) 1 1 0, powered] ∧ Steady b t)))

/-! ## Invariants -/

/-- Every step keeps host memory in its canonical form, so that equal memories are equal data. -/
def Obligations.EveryStepKeepsMemoryCanonical : Prop := ∀ s t : State,
  memoryWf s.memory = true → step s = .next t → memoryWf t.memory = true

/-- Every step keeps the meters within their limits and each tier the one that A, R and the fractions give; and every step keeps each class's
bucket within its depth (R157). The tier is that of R147: NORMAL with an allowance of 0; else SPENT with nothing left, SCARCE up to
floor(A × scarce_frac / 256), LEAN up to floor(A × lean_frac / 256), and NORMAL above. -/
def Obligations.EveryStepKeepsTheMeters : Prop :=
  (∀ s t : State, s.metersHold → step s = .next t → t.metersHold ∧ ∀ r,
    let p := t.cfg.meters.get r
    let left := (t.meter r).remaining
    (p.allowance = 0 → (t.meter r).tier = .normal) ∧
    (0 < p.allowance →
      ((t.meter r).tier = .spent ↔ left = 0) ∧
      ((t.meter r).tier = .scarce ↔ 0 < left ∧ left ≤ p.allowance * p.scarceFrac / 256) ∧
      ((t.meter r).tier = .lean ↔
        0 < left ∧ p.allowance * p.scarceFrac / 256 < left ∧ left ≤ p.allowance * p.leanFrac / 256) ∧
      ((t.meter r).tier = .normal ↔
        0 < left ∧ p.allowance * p.scarceFrac / 256 < left ∧ p.allowance * p.leanFrac / 256 < left))) ∧
  ∀ s t : State, s.bucketsHold → step s = .next t → t.bucketsHold

/-- Every step keeps the judgement records within their limits. -/
def Obligations.EveryStepKeepsTheJudgements : Prop := ∀ s t : State, s.judgementsHold → step s = .next t → t.judgementsHold

/-- After every step each usable decision is what its terms give, whatever the step changed: a verdict GOOD or POOR and no suppression, for
FIBRE its link UP and no OPTICAL_LOSS, for a radio one that is ready and not draining (R86). With that, every step keeps the radios as R34,
R37 and R43 have them: an OFF radio has no assigned entry, is not the carrier and does not drain, and in RESERVE one radio at most is out of
OFF and not draining; and as R33 and R44 have them: where no re-test of it waits, so in every state without deliveries, a ready radio is
CARRYING exactly when it is the carrier or has an assigned entry, and a radio drains only while it is the one or has the other. -/
def Obligations.EveryStepKeepsTheUsableDecisions : Prop :=
  (∀ s t : State, s.decisionsHold → step s = .next t → t.decisionsHold ∧ ∀ u,
    t.usable u = true ↔ ((t.judge u).verdict = .good ∨ (t.judge u).verdict = .poor) ∧ (t.judge u).suppressed = false ∧
      (u = .fibre → t.links.f = true ∧ t.conditions.filtered.opticalLoss = false) ∧
      ∀ r : Radio, u = r.uplink →
        ((t.radio r).state = .standby ∨ (t.radio r).state = .carrying) ∧ (t.radio r).draining = false) ∧
  ∀ s t : State, s.decisionsHold → s.RadiosHold → step s = .next t → t.RadiosHold

/-- Every step keeps the flow table's indices, keys and counts. -/
def Obligations.EveryStepKeepsTheFlowTable : Prop := ∀ s t : State, s.flows.Holds → step s = .next t → t.flows.Holds

/-- Every step keeps the exchange's limits; while RUN is 0 there is no queue, no sweep and no copy. -/
def Obligations.EveryStepKeepsTheExchange : Prop := ∀ s t : State, s.ExchangeHolds → step s = .next t → t.ExchangeHolds

/-- What a STORE writes, a load reads back (R176, R177, R180): an image of the settings in force is accepted and gives those settings again,
item by item, whatever R it holds. So it is for the factory defaults and for what any load puts in force, and every step keeps it so: no
request stores a value that an image would bring to range or refuse. An image is refused exactly when it holds an IP version other than 4 or
6 in a record, a bad policy, mode, admission, protocol, class or pin code, or an inconsistent pair (R177), a valid rule's pin and the
version of its prefix being read only where its flag bit says that they are present, which is the model's choice (log entry 26); one that is
not refused has each tuning value brought to the nearer limit, and VOICE's admission limits SPENT and RESERVE (R178). -/
def Obligations.AStoredImageLoadsAsTheSameSettings : Prop :=
  (∀ r : PerRadio Nat, settingsOf (imageOf Settings.factory r) = some Settings.factory ∧
    ∀ i c, settingsOf i = some c → settingsOf (imageOf c r) = some c) ∧
  (∀ s t : State, s.settingsHold → step s = .next t → t.settingsHold) ∧
  ∀ i : Image,
    let version := fun n : Nat => n = 4 ∨ n = 6
    (settingsOf i = none ↔
      (∃ u p, i.records.get u = some p ∧ ¬ version p.version.toNat) ∨
      (∃ u, max 1 (min 32 (i.judges.get u).failLoss.toNat) ≤ (i.judges.get u).goodLoss.toNat ∨
        max 1 (min 16000 (i.judges.get u).suppress.toNat) ≤ (i.judges.get u).reuse.toNat) ∨
      (∃ r, 1 < (i.timers.get r).policy.toNat) ∨
      (∃ c, 1 < (i.classes.get c).mode.toNat ∨
        (c ≠ .voice ∧ (3 < (i.classes.get c).radioAdmission.toNat ∨ 2 < (i.classes.get c).powerAdmission.toNat))) ∨
      (∃ p ∈ i.rules, p.valid = true ∧ (3 < p.protocol.toNat ∨ 3 < p.trafficClass.toNat ∨ (p.hasPin = true ∧ 2 < p.pin.toNat) ∨
        (p.hasDest = true ∧ ¬ version p.destVersion.toNat))) ∨
      ∃ r, max 1 (min 255 (i.meters.get r).leanFrac.toNat) ≤ (i.meters.get r).scarceFrac.toNat) ∧
    ∀ c, settingsOf i = some c →
      c.siteId = i.siteId ∧
      (∀ r, c.linkLimits.get r = max 1280 (min 1600 (i.linkLimits.get r).toNat)) ∧
      (∀ u, (c.probes.get u).carrying = max 100 (min 10000 (i.probes.get u).carrying.toNat) ∧
        (c.probes.get u).timeout = max 100 (min 2000 (i.probes.get u).timeout.toNat) ∧
        (u ≠ .fibre → (c.probes.get u).standby = max 1000 (min 60000 (i.probes.get u).standby.toNat))) ∧
      (∀ u, (c.judges.get u).failRun = max 1 (min 8 (i.judges.get u).failRun.toNat) ∧
        (c.judges.get u).goodLoss = (i.judges.get u).goodLoss.toNat ∧
        (c.judges.get u).delayLimit = max 1 (min 1000 (i.judges.get u).delayLimit.toNat)) ∧
      c.selector = ⟨min 3600 i.selector.returnHold.toNat, min 500 i.selector.switchMargin.toNat,
        max 1 (min 10 i.selector.switchSustain.toNat)⟩ ∧
      (∀ r, (c.timers.get r).warmMin = max 1 (min 300 (i.timers.get r).warmMin.toNat) ∧
        policyCode (c.timers.get r).policy = (i.timers.get r).policy.toNat) ∧
      (c.classes.voice.radioAdmission = .spent ∧ c.classes.voice.powerAdmission = .reserve) ∧
      c.rules.length = i.rules.length ∧
      (∀ r, (c.meters.get r).allowance = min (2 ^ 40 - 1) (i.meters.get r).allowance.toNat ∧
        (c.meters.get r).leanFrac = max 1 (min 255 (i.meters.get r).leanFrac.toNat) ∧
        (c.meters.get r).scarceFrac = (i.meters.get r).scarceFrac.toNat) ∧
      c.watch.mask = i.watch.mask ∧ c.watch.pattern = i.watch.pattern
end

