-- ==== Sys2Proof/Laws/State.lean ====
section
/-! SUPPORT. What each field of State is after each of the plain updates: one lemma per field per update, true by definition. -/

namespace Sys2Proof

/-! ## One value for each name of a small set -/

variable {α : Type}

@[simp] theorem PerUplink.get_set (p : PerUplink α) (u : Uplink) (x : α) : (p.set u x).get u = x := by cases u <;> rfl
theorem PerUplink.get_set_ne (p : PerUplink α) {u v : Uplink} (x : α) (h : v ≠ u) : (p.set u x).get v = p.get v := by
  cases u <;> cases v <;> first | rfl | exact absurd rfl h
@[simp] theorem PerRadio.get_set (p : PerRadio α) (r : Radio) (x : α) : (p.set r x).get r = x := by cases r <;> rfl
theorem PerRadio.get_set_ne (p : PerRadio α) {r q : Radio} (x : α) (h : q ≠ r) : (p.set r x).get q = p.get q := by
  cases r <;> cases q <;> first | rfl | exact absurd rfl h
@[simp] theorem PerPort.get_set (p : PerPort α) (o : Port) (x : α) : (p.set o x).get o = x := by cases o <;> rfl
theorem PerPort.get_set_ne (p : PerPort α) {o q : Port} (x : α) (h : q ≠ o) : (p.set o x).get q = p.get q := by
  cases o <;> cases q <;> first | rfl | exact absurd rfl h
@[simp] theorem PerInput.get_set (p : PerInput α) (i : Input) (x : α) : (p.set i x).get i = x := by cases i <;> rfl
theorem PerInput.get_set_ne (p : PerInput α) {i j : Input} (x : α) (h : j ≠ i) : (p.set i x).get j = p.get j := by
  cases i <;> cases j <;> first | rfl | exact absurd rfl h
@[simp] theorem PerClass.get_set (p : PerClass α) (c : TrafficClass) (x : α) : (p.set c x).get c = x := by cases c <;> rfl
theorem PerClass.get_set_ne (p : PerClass α) {c d : TrafficClass} (x : α) (h : d ≠ c) : (p.set c x).get d = p.get d := by
  cases c <;> cases d <;> first | rfl | exact absurd rfl h
@[simp] theorem PerUplink.get_all (x : α) (u : Uplink) : (PerUplink.all x).get u = x := by cases u <;> rfl
@[simp] theorem PerRadio.get_all (x : α) (r : Radio) : (PerRadio.all x).get r = x := by cases r <;> rfl
@[simp] theorem PerClass.get_all (x : α) (c : TrafficClass) : (PerClass.all x).get c = x := by cases c <;> rfl
@[simp] theorem PerPort.get_all (x : α) (o : Port) : (PerPort.all x).get o = x := by cases o <;> rfl
@[simp] theorem PerInput.get_all (x : α) (i : Input) : (PerInput.all x).get i = x := by cases i <;> rfl
@[simp] theorem Radio.uplink_radio (r : Radio) : r.uplink.radio? = some r := by cases r <;> rfl
@[simp] theorem Radio.other_other (r : Radio) : r.other.other = r := by cases r <;> rfl
theorem Radio.other_ne (r : Radio) : r.other ≠ r := by cases r <;> decide
theorem Radio.eq_other {r q : Radio} (h : q ≠ r) : q = r.other := by cases r <;> cases q <;> first | rfl | exact absurd rfl h
theorem Uplink.radio_eq {u : Uplink} {r : Radio} (h : u.radio? = some r) : u = r.uplink := by
  cases u <;> cases r <;> first | rfl | exact absurd h (by decide)
theorem Uplink.fibre_of {u : Uplink} (h : u.radio? = none) : u = .fibre := by
  cases u <;> first | rfl | exact absurd h (by decide)
theorem Radio.uplink_inj {r q : Radio} (h : r.uplink = q.uplink) : r = q := by
  cases r <;> cases q <;> first | rfl | exact absurd h (by decide)

namespace Machine

variable (s : State)

/-! ## setRadio -/

@[simp] theorem State.setRadio_phase (r : Radio) (x : RadioUnit) : (s.setRadio r x).phase = s.phase := rfl
@[simp] theorem State.setRadio_clock (r : Radio) (x : RadioUnit) : (s.setRadio r x).clock = s.clock := rfl
@[simp] theorem State.setRadio_links (r : Radio) (x : RadioUnit) : (s.setRadio r x).links = s.links := rfl
@[simp] theorem State.setRadio_cfg (r : Radio) (x : RadioUnit) : (s.setRadio r x).cfg = s.cfg := rfl
@[simp] theorem State.setRadio_framers (r : Radio) (x : RadioUnit) : (s.setRadio r x).framers = s.framers := rfl
@[simp] theorem State.setRadio_conditions (r : Radio) (x : RadioUnit) : (s.setRadio r x).conditions = s.conditions := rfl
@[simp] theorem State.setRadio_radios (r : Radio) (x : RadioUnit) : (s.setRadio r x).radios = s.radios.set r x := rfl
@[simp] theorem State.setRadio_probers (r : Radio) (x : RadioUnit) : (s.setRadio r x).probers = s.probers := rfl
@[simp] theorem State.setRadio_judges (r : Radio) (x : RadioUnit) : (s.setRadio r x).judges = s.judges := rfl
@[simp] theorem State.setRadio_selector (r : Radio) (x : RadioUnit) : (s.setRadio r x).selector = s.selector := rfl
@[simp] theorem State.setRadio_flows (r : Radio) (x : RadioUnit) : (s.setRadio r x).flows = s.flows := rfl
@[simp] theorem State.setRadio_walk (r : Radio) (x : RadioUnit) : (s.setRadio r x).walk = s.walk := rfl
@[simp] theorem State.setRadio_meters (r : Radio) (x : RadioUnit) : (s.setRadio r x).meters = s.meters := rfl
@[simp] theorem State.setRadio_policer (r : Radio) (x : RadioUnit) : (s.setRadio r x).policer = s.policer := rfl
@[simp] theorem State.setRadio_regs (r : Radio) (x : RadioUnit) : (s.setRadio r x).regs = s.regs := rfl
@[simp] theorem State.setRadio_exchange (r : Radio) (x : RadioUnit) : (s.setRadio r x).exchange = s.exchange := rfl
@[simp] theorem State.setRadio_store (r : Radio) (x : RadioUnit) : (s.setRadio r x).store = s.store := rfl
@[simp] theorem State.setRadio_memory (r : Radio) (x : RadioUnit) : (s.setRadio r x).memory = s.memory := rfl
@[simp] theorem State.setRadio_wire (r : Radio) (x : RadioUnit) : (s.setRadio r x).wire = s.wire := rfl
@[simp] theorem State.setRadio_access (r : Radio) (x : RadioUnit) : (s.setRadio r x).access = s.access := rfl
@[simp] theorem State.setRadio_supply (r : Radio) (x : RadioUnit) : (s.setRadio r x).supply = s.supply := rfl
@[simp] theorem State.setRadio_deliveries (r : Radio) (x : RadioUnit) : (s.setRadio r x).deliveries = s.deliveries := rfl
@[simp] theorem State.setRadio_pending (r : Radio) (x : RadioUnit) : (s.setRadio r x).pending = s.pending := rfl

/-! ## setJudge -/

@[simp] theorem State.setJudge_phase (u : Uplink) (x : Judgement) : (s.setJudge u x).phase = s.phase := rfl
@[simp] theorem State.setJudge_clock (u : Uplink) (x : Judgement) : (s.setJudge u x).clock = s.clock := rfl
@[simp] theorem State.setJudge_links (u : Uplink) (x : Judgement) : (s.setJudge u x).links = s.links := rfl
@[simp] theorem State.setJudge_cfg (u : Uplink) (x : Judgement) : (s.setJudge u x).cfg = s.cfg := rfl
@[simp] theorem State.setJudge_framers (u : Uplink) (x : Judgement) : (s.setJudge u x).framers = s.framers := rfl
@[simp] theorem State.setJudge_conditions (u : Uplink) (x : Judgement) : (s.setJudge u x).conditions = s.conditions := rfl
@[simp] theorem State.setJudge_radios (u : Uplink) (x : Judgement) : (s.setJudge u x).radios = s.radios := rfl
@[simp] theorem State.setJudge_probers (u : Uplink) (x : Judgement) : (s.setJudge u x).probers = s.probers := rfl
@[simp] theorem State.setJudge_judges (u : Uplink) (x : Judgement) : (s.setJudge u x).judges = s.judges.set u x := rfl
@[simp] theorem State.setJudge_selector (u : Uplink) (x : Judgement) : (s.setJudge u x).selector = s.selector := rfl
@[simp] theorem State.setJudge_flows (u : Uplink) (x : Judgement) : (s.setJudge u x).flows = s.flows := rfl
@[simp] theorem State.setJudge_walk (u : Uplink) (x : Judgement) : (s.setJudge u x).walk = s.walk := rfl
@[simp] theorem State.setJudge_meters (u : Uplink) (x : Judgement) : (s.setJudge u x).meters = s.meters := rfl
@[simp] theorem State.setJudge_policer (u : Uplink) (x : Judgement) : (s.setJudge u x).policer = s.policer := rfl
@[simp] theorem State.setJudge_regs (u : Uplink) (x : Judgement) : (s.setJudge u x).regs = s.regs := rfl
@[simp] theorem State.setJudge_exchange (u : Uplink) (x : Judgement) : (s.setJudge u x).exchange = s.exchange := rfl
@[simp] theorem State.setJudge_store (u : Uplink) (x : Judgement) : (s.setJudge u x).store = s.store := rfl
@[simp] theorem State.setJudge_memory (u : Uplink) (x : Judgement) : (s.setJudge u x).memory = s.memory := rfl
@[simp] theorem State.setJudge_wire (u : Uplink) (x : Judgement) : (s.setJudge u x).wire = s.wire := rfl
@[simp] theorem State.setJudge_access (u : Uplink) (x : Judgement) : (s.setJudge u x).access = s.access := rfl
@[simp] theorem State.setJudge_supply (u : Uplink) (x : Judgement) : (s.setJudge u x).supply = s.supply := rfl
@[simp] theorem State.setJudge_deliveries (u : Uplink) (x : Judgement) : (s.setJudge u x).deliveries = s.deliveries := rfl
@[simp] theorem State.setJudge_pending (u : Uplink) (x : Judgement) : (s.setJudge u x).pending = s.pending := rfl

/-! ## setProber -/

@[simp] theorem State.setProber_phase (u : Uplink) (x : Prober) : (s.setProber u x).phase = s.phase := rfl
@[simp] theorem State.setProber_clock (u : Uplink) (x : Prober) : (s.setProber u x).clock = s.clock := rfl
@[simp] theorem State.setProber_links (u : Uplink) (x : Prober) : (s.setProber u x).links = s.links := rfl
@[simp] theorem State.setProber_cfg (u : Uplink) (x : Prober) : (s.setProber u x).cfg = s.cfg := rfl
@[simp] theorem State.setProber_framers (u : Uplink) (x : Prober) : (s.setProber u x).framers = s.framers := rfl
@[simp] theorem State.setProber_conditions (u : Uplink) (x : Prober) : (s.setProber u x).conditions = s.conditions := rfl
@[simp] theorem State.setProber_radios (u : Uplink) (x : Prober) : (s.setProber u x).radios = s.radios := rfl
@[simp] theorem State.setProber_probers (u : Uplink) (x : Prober) : (s.setProber u x).probers = s.probers.set u x := rfl
@[simp] theorem State.setProber_judges (u : Uplink) (x : Prober) : (s.setProber u x).judges = s.judges := rfl
@[simp] theorem State.setProber_selector (u : Uplink) (x : Prober) : (s.setProber u x).selector = s.selector := rfl
@[simp] theorem State.setProber_flows (u : Uplink) (x : Prober) : (s.setProber u x).flows = s.flows := rfl
@[simp] theorem State.setProber_walk (u : Uplink) (x : Prober) : (s.setProber u x).walk = s.walk := rfl
@[simp] theorem State.setProber_meters (u : Uplink) (x : Prober) : (s.setProber u x).meters = s.meters := rfl
@[simp] theorem State.setProber_policer (u : Uplink) (x : Prober) : (s.setProber u x).policer = s.policer := rfl
@[simp] theorem State.setProber_regs (u : Uplink) (x : Prober) : (s.setProber u x).regs = s.regs := rfl
@[simp] theorem State.setProber_exchange (u : Uplink) (x : Prober) : (s.setProber u x).exchange = s.exchange := rfl
@[simp] theorem State.setProber_store (u : Uplink) (x : Prober) : (s.setProber u x).store = s.store := rfl
@[simp] theorem State.setProber_memory (u : Uplink) (x : Prober) : (s.setProber u x).memory = s.memory := rfl
@[simp] theorem State.setProber_wire (u : Uplink) (x : Prober) : (s.setProber u x).wire = s.wire := rfl
@[simp] theorem State.setProber_access (u : Uplink) (x : Prober) : (s.setProber u x).access = s.access := rfl
@[simp] theorem State.setProber_supply (u : Uplink) (x : Prober) : (s.setProber u x).supply = s.supply := rfl
@[simp] theorem State.setProber_deliveries (u : Uplink) (x : Prober) : (s.setProber u x).deliveries = s.deliveries := rfl
@[simp] theorem State.setProber_pending (u : Uplink) (x : Prober) : (s.setProber u x).pending = s.pending := rfl

/-! ## setFramer -/

@[simp] theorem State.setFramer_phase (r : Radio) (x : RadioFramer) : (s.setFramer r x).phase = s.phase := rfl
@[simp] theorem State.setFramer_clock (r : Radio) (x : RadioFramer) : (s.setFramer r x).clock = s.clock := rfl
@[simp] theorem State.setFramer_links (r : Radio) (x : RadioFramer) : (s.setFramer r x).links = s.links := rfl
@[simp] theorem State.setFramer_cfg (r : Radio) (x : RadioFramer) : (s.setFramer r x).cfg = s.cfg := rfl
@[simp] theorem State.setFramer_framers (r : Radio) (x : RadioFramer) : (s.setFramer r x).framers = s.framers.set r x := rfl
@[simp] theorem State.setFramer_conditions (r : Radio) (x : RadioFramer) : (s.setFramer r x).conditions = s.conditions := rfl
@[simp] theorem State.setFramer_radios (r : Radio) (x : RadioFramer) : (s.setFramer r x).radios = s.radios := rfl
@[simp] theorem State.setFramer_probers (r : Radio) (x : RadioFramer) : (s.setFramer r x).probers = s.probers := rfl
@[simp] theorem State.setFramer_judges (r : Radio) (x : RadioFramer) : (s.setFramer r x).judges = s.judges := rfl
@[simp] theorem State.setFramer_selector (r : Radio) (x : RadioFramer) : (s.setFramer r x).selector = s.selector := rfl
@[simp] theorem State.setFramer_flows (r : Radio) (x : RadioFramer) : (s.setFramer r x).flows = s.flows := rfl
@[simp] theorem State.setFramer_walk (r : Radio) (x : RadioFramer) : (s.setFramer r x).walk = s.walk := rfl
@[simp] theorem State.setFramer_meters (r : Radio) (x : RadioFramer) : (s.setFramer r x).meters = s.meters := rfl
@[simp] theorem State.setFramer_policer (r : Radio) (x : RadioFramer) : (s.setFramer r x).policer = s.policer := rfl
@[simp] theorem State.setFramer_regs (r : Radio) (x : RadioFramer) : (s.setFramer r x).regs = s.regs := rfl
@[simp] theorem State.setFramer_exchange (r : Radio) (x : RadioFramer) : (s.setFramer r x).exchange = s.exchange := rfl
@[simp] theorem State.setFramer_store (r : Radio) (x : RadioFramer) : (s.setFramer r x).store = s.store := rfl
@[simp] theorem State.setFramer_memory (r : Radio) (x : RadioFramer) : (s.setFramer r x).memory = s.memory := rfl
@[simp] theorem State.setFramer_wire (r : Radio) (x : RadioFramer) : (s.setFramer r x).wire = s.wire := rfl
@[simp] theorem State.setFramer_access (r : Radio) (x : RadioFramer) : (s.setFramer r x).access = s.access := rfl
@[simp] theorem State.setFramer_supply (r : Radio) (x : RadioFramer) : (s.setFramer r x).supply = s.supply := rfl
@[simp] theorem State.setFramer_deliveries (r : Radio) (x : RadioFramer) : (s.setFramer r x).deliveries = s.deliveries := rfl
@[simp] theorem State.setFramer_pending (r : Radio) (x : RadioFramer) : (s.setFramer r x).pending = s.pending := rfl

/-! ## setMeter -/

@[simp] theorem State.setMeter_phase (r : Radio) (x : Meter) : (s.setMeter r x).phase = s.phase := rfl
@[simp] theorem State.setMeter_clock (r : Radio) (x : Meter) : (s.setMeter r x).clock = s.clock := rfl
@[simp] theorem State.setMeter_links (r : Radio) (x : Meter) : (s.setMeter r x).links = s.links := rfl
@[simp] theorem State.setMeter_cfg (r : Radio) (x : Meter) : (s.setMeter r x).cfg = s.cfg := rfl
@[simp] theorem State.setMeter_framers (r : Radio) (x : Meter) : (s.setMeter r x).framers = s.framers := rfl
@[simp] theorem State.setMeter_conditions (r : Radio) (x : Meter) : (s.setMeter r x).conditions = s.conditions := rfl
@[simp] theorem State.setMeter_radios (r : Radio) (x : Meter) : (s.setMeter r x).radios = s.radios := rfl
@[simp] theorem State.setMeter_probers (r : Radio) (x : Meter) : (s.setMeter r x).probers = s.probers := rfl
@[simp] theorem State.setMeter_judges (r : Radio) (x : Meter) : (s.setMeter r x).judges = s.judges := rfl
@[simp] theorem State.setMeter_selector (r : Radio) (x : Meter) : (s.setMeter r x).selector = s.selector := rfl
@[simp] theorem State.setMeter_flows (r : Radio) (x : Meter) : (s.setMeter r x).flows = s.flows := rfl
@[simp] theorem State.setMeter_walk (r : Radio) (x : Meter) : (s.setMeter r x).walk = s.walk := rfl
@[simp] theorem State.setMeter_meters (r : Radio) (x : Meter) : (s.setMeter r x).meters = s.meters.set r x := rfl
@[simp] theorem State.setMeter_policer (r : Radio) (x : Meter) : (s.setMeter r x).policer = s.policer := rfl
@[simp] theorem State.setMeter_regs (r : Radio) (x : Meter) : (s.setMeter r x).regs = s.regs := rfl
@[simp] theorem State.setMeter_exchange (r : Radio) (x : Meter) : (s.setMeter r x).exchange = s.exchange := rfl
@[simp] theorem State.setMeter_store (r : Radio) (x : Meter) : (s.setMeter r x).store = s.store := rfl
@[simp] theorem State.setMeter_memory (r : Radio) (x : Meter) : (s.setMeter r x).memory = s.memory := rfl
@[simp] theorem State.setMeter_wire (r : Radio) (x : Meter) : (s.setMeter r x).wire = s.wire := rfl
@[simp] theorem State.setMeter_access (r : Radio) (x : Meter) : (s.setMeter r x).access = s.access := rfl
@[simp] theorem State.setMeter_supply (r : Radio) (x : Meter) : (s.setMeter r x).supply = s.supply := rfl
@[simp] theorem State.setMeter_deliveries (r : Radio) (x : Meter) : (s.setMeter r x).deliveries = s.deliveries := rfl
@[simp] theorem State.setMeter_pending (r : Radio) (x : Meter) : (s.setMeter r x).pending = s.pending := rfl

/-! ## setSelector -/

@[simp] theorem State.setSelector_phase (x : Selector) : (s.setSelector x).phase = s.phase := rfl
@[simp] theorem State.setSelector_clock (x : Selector) : (s.setSelector x).clock = s.clock := rfl
@[simp] theorem State.setSelector_links (x : Selector) : (s.setSelector x).links = s.links := rfl
@[simp] theorem State.setSelector_cfg (x : Selector) : (s.setSelector x).cfg = s.cfg := rfl
@[simp] theorem State.setSelector_framers (x : Selector) : (s.setSelector x).framers = s.framers := rfl
@[simp] theorem State.setSelector_conditions (x : Selector) : (s.setSelector x).conditions = s.conditions := rfl
@[simp] theorem State.setSelector_radios (x : Selector) : (s.setSelector x).radios = s.radios := rfl
@[simp] theorem State.setSelector_probers (x : Selector) : (s.setSelector x).probers = s.probers := rfl
@[simp] theorem State.setSelector_judges (x : Selector) : (s.setSelector x).judges = s.judges := rfl
@[simp] theorem State.setSelector_selector (x : Selector) : (s.setSelector x).selector = x := rfl
@[simp] theorem State.setSelector_flows (x : Selector) : (s.setSelector x).flows = s.flows := rfl
@[simp] theorem State.setSelector_walk (x : Selector) : (s.setSelector x).walk = s.walk := rfl
@[simp] theorem State.setSelector_meters (x : Selector) : (s.setSelector x).meters = s.meters := rfl
@[simp] theorem State.setSelector_policer (x : Selector) : (s.setSelector x).policer = s.policer := rfl
@[simp] theorem State.setSelector_regs (x : Selector) : (s.setSelector x).regs = s.regs := rfl
@[simp] theorem State.setSelector_exchange (x : Selector) : (s.setSelector x).exchange = s.exchange := rfl
@[simp] theorem State.setSelector_store (x : Selector) : (s.setSelector x).store = s.store := rfl
@[simp] theorem State.setSelector_memory (x : Selector) : (s.setSelector x).memory = s.memory := rfl
@[simp] theorem State.setSelector_wire (x : Selector) : (s.setSelector x).wire = s.wire := rfl
@[simp] theorem State.setSelector_access (x : Selector) : (s.setSelector x).access = s.access := rfl
@[simp] theorem State.setSelector_supply (x : Selector) : (s.setSelector x).supply = s.supply := rfl
@[simp] theorem State.setSelector_deliveries (x : Selector) : (s.setSelector x).deliveries = s.deliveries := rfl
@[simp] theorem State.setSelector_pending (x : Selector) : (s.setSelector x).pending = s.pending := rfl

/-! ## setRegs -/

@[simp] theorem State.setRegs_phase (x : Registers) : (s.setRegs x).phase = s.phase := rfl
@[simp] theorem State.setRegs_clock (x : Registers) : (s.setRegs x).clock = s.clock := rfl
@[simp] theorem State.setRegs_links (x : Registers) : (s.setRegs x).links = s.links := rfl
@[simp] theorem State.setRegs_cfg (x : Registers) : (s.setRegs x).cfg = s.cfg := rfl
@[simp] theorem State.setRegs_framers (x : Registers) : (s.setRegs x).framers = s.framers := rfl
@[simp] theorem State.setRegs_conditions (x : Registers) : (s.setRegs x).conditions = s.conditions := rfl
@[simp] theorem State.setRegs_radios (x : Registers) : (s.setRegs x).radios = s.radios := rfl
@[simp] theorem State.setRegs_probers (x : Registers) : (s.setRegs x).probers = s.probers := rfl
@[simp] theorem State.setRegs_judges (x : Registers) : (s.setRegs x).judges = s.judges := rfl
@[simp] theorem State.setRegs_selector (x : Registers) : (s.setRegs x).selector = s.selector := rfl
@[simp] theorem State.setRegs_flows (x : Registers) : (s.setRegs x).flows = s.flows := rfl
@[simp] theorem State.setRegs_walk (x : Registers) : (s.setRegs x).walk = s.walk := rfl
@[simp] theorem State.setRegs_meters (x : Registers) : (s.setRegs x).meters = s.meters := rfl
@[simp] theorem State.setRegs_policer (x : Registers) : (s.setRegs x).policer = s.policer := rfl
@[simp] theorem State.setRegs_regs (x : Registers) : (s.setRegs x).regs = x := rfl
@[simp] theorem State.setRegs_exchange (x : Registers) : (s.setRegs x).exchange = s.exchange := rfl
@[simp] theorem State.setRegs_store (x : Registers) : (s.setRegs x).store = s.store := rfl
@[simp] theorem State.setRegs_memory (x : Registers) : (s.setRegs x).memory = s.memory := rfl
@[simp] theorem State.setRegs_wire (x : Registers) : (s.setRegs x).wire = s.wire := rfl
@[simp] theorem State.setRegs_access (x : Registers) : (s.setRegs x).access = s.access := rfl
@[simp] theorem State.setRegs_supply (x : Registers) : (s.setRegs x).supply = s.supply := rfl
@[simp] theorem State.setRegs_deliveries (x : Registers) : (s.setRegs x).deliveries = s.deliveries := rfl
@[simp] theorem State.setRegs_pending (x : Registers) : (s.setRegs x).pending = s.pending := rfl

/-! ## setExchange -/

@[simp] theorem State.setExchange_phase (x : Exchange) : (s.setExchange x).phase = s.phase := rfl
@[simp] theorem State.setExchange_clock (x : Exchange) : (s.setExchange x).clock = s.clock := rfl
@[simp] theorem State.setExchange_links (x : Exchange) : (s.setExchange x).links = s.links := rfl
@[simp] theorem State.setExchange_cfg (x : Exchange) : (s.setExchange x).cfg = s.cfg := rfl
@[simp] theorem State.setExchange_framers (x : Exchange) : (s.setExchange x).framers = s.framers := rfl
@[simp] theorem State.setExchange_conditions (x : Exchange) : (s.setExchange x).conditions = s.conditions := rfl
@[simp] theorem State.setExchange_radios (x : Exchange) : (s.setExchange x).radios = s.radios := rfl
@[simp] theorem State.setExchange_probers (x : Exchange) : (s.setExchange x).probers = s.probers := rfl
@[simp] theorem State.setExchange_judges (x : Exchange) : (s.setExchange x).judges = s.judges := rfl
@[simp] theorem State.setExchange_selector (x : Exchange) : (s.setExchange x).selector = s.selector := rfl
@[simp] theorem State.setExchange_flows (x : Exchange) : (s.setExchange x).flows = s.flows := rfl
@[simp] theorem State.setExchange_walk (x : Exchange) : (s.setExchange x).walk = s.walk := rfl
@[simp] theorem State.setExchange_meters (x : Exchange) : (s.setExchange x).meters = s.meters := rfl
@[simp] theorem State.setExchange_policer (x : Exchange) : (s.setExchange x).policer = s.policer := rfl
@[simp] theorem State.setExchange_regs (x : Exchange) : (s.setExchange x).regs = s.regs := rfl
@[simp] theorem State.setExchange_exchange (x : Exchange) : (s.setExchange x).exchange = x := rfl
@[simp] theorem State.setExchange_store (x : Exchange) : (s.setExchange x).store = s.store := rfl
@[simp] theorem State.setExchange_memory (x : Exchange) : (s.setExchange x).memory = s.memory := rfl
@[simp] theorem State.setExchange_wire (x : Exchange) : (s.setExchange x).wire = s.wire := rfl
@[simp] theorem State.setExchange_access (x : Exchange) : (s.setExchange x).access = s.access := rfl
@[simp] theorem State.setExchange_supply (x : Exchange) : (s.setExchange x).supply = s.supply := rfl
@[simp] theorem State.setExchange_deliveries (x : Exchange) : (s.setExchange x).deliveries = s.deliveries := rfl
@[simp] theorem State.setExchange_pending (x : Exchange) : (s.setExchange x).pending = s.pending := rfl

/-! ## setConditions -/

@[simp] theorem State.setConditions_phase (x : Conditions) : (s.setConditions x).phase = s.phase := rfl
@[simp] theorem State.setConditions_clock (x : Conditions) : (s.setConditions x).clock = s.clock := rfl
@[simp] theorem State.setConditions_links (x : Conditions) : (s.setConditions x).links = s.links := rfl
@[simp] theorem State.setConditions_cfg (x : Conditions) : (s.setConditions x).cfg = s.cfg := rfl
@[simp] theorem State.setConditions_framers (x : Conditions) : (s.setConditions x).framers = s.framers := rfl
@[simp] theorem State.setConditions_conditions (x : Conditions) : (s.setConditions x).conditions = x := rfl
@[simp] theorem State.setConditions_radios (x : Conditions) : (s.setConditions x).radios = s.radios := rfl
@[simp] theorem State.setConditions_probers (x : Conditions) : (s.setConditions x).probers = s.probers := rfl
@[simp] theorem State.setConditions_judges (x : Conditions) : (s.setConditions x).judges = s.judges := rfl
@[simp] theorem State.setConditions_selector (x : Conditions) : (s.setConditions x).selector = s.selector := rfl
@[simp] theorem State.setConditions_flows (x : Conditions) : (s.setConditions x).flows = s.flows := rfl
@[simp] theorem State.setConditions_walk (x : Conditions) : (s.setConditions x).walk = s.walk := rfl
@[simp] theorem State.setConditions_meters (x : Conditions) : (s.setConditions x).meters = s.meters := rfl
@[simp] theorem State.setConditions_policer (x : Conditions) : (s.setConditions x).policer = s.policer := rfl
@[simp] theorem State.setConditions_regs (x : Conditions) : (s.setConditions x).regs = s.regs := rfl
@[simp] theorem State.setConditions_exchange (x : Conditions) : (s.setConditions x).exchange = s.exchange := rfl
@[simp] theorem State.setConditions_store (x : Conditions) : (s.setConditions x).store = s.store := rfl
@[simp] theorem State.setConditions_memory (x : Conditions) : (s.setConditions x).memory = s.memory := rfl
@[simp] theorem State.setConditions_wire (x : Conditions) : (s.setConditions x).wire = s.wire := rfl
@[simp] theorem State.setConditions_access (x : Conditions) : (s.setConditions x).access = s.access := rfl
@[simp] theorem State.setConditions_supply (x : Conditions) : (s.setConditions x).supply = s.supply := rfl
@[simp] theorem State.setConditions_deliveries (x : Conditions) : (s.setConditions x).deliveries = s.deliveries := rfl
@[simp] theorem State.setConditions_pending (x : Conditions) : (s.setConditions x).pending = s.pending := rfl

/-! ## setFlows -/

@[simp] theorem State.setFlows_phase (x : FlowTable) : (s.setFlows x).phase = s.phase := rfl
@[simp] theorem State.setFlows_clock (x : FlowTable) : (s.setFlows x).clock = s.clock := rfl
@[simp] theorem State.setFlows_links (x : FlowTable) : (s.setFlows x).links = s.links := rfl
@[simp] theorem State.setFlows_cfg (x : FlowTable) : (s.setFlows x).cfg = s.cfg := rfl
@[simp] theorem State.setFlows_framers (x : FlowTable) : (s.setFlows x).framers = s.framers := rfl
@[simp] theorem State.setFlows_conditions (x : FlowTable) : (s.setFlows x).conditions = s.conditions := rfl
@[simp] theorem State.setFlows_radios (x : FlowTable) : (s.setFlows x).radios = s.radios := rfl
@[simp] theorem State.setFlows_probers (x : FlowTable) : (s.setFlows x).probers = s.probers := rfl
@[simp] theorem State.setFlows_judges (x : FlowTable) : (s.setFlows x).judges = s.judges := rfl
@[simp] theorem State.setFlows_selector (x : FlowTable) : (s.setFlows x).selector = s.selector := rfl
@[simp] theorem State.setFlows_flows (x : FlowTable) : (s.setFlows x).flows = x := rfl
@[simp] theorem State.setFlows_walk (x : FlowTable) : (s.setFlows x).walk = s.walk := rfl
@[simp] theorem State.setFlows_meters (x : FlowTable) : (s.setFlows x).meters = s.meters := rfl
@[simp] theorem State.setFlows_policer (x : FlowTable) : (s.setFlows x).policer = s.policer := rfl
@[simp] theorem State.setFlows_regs (x : FlowTable) : (s.setFlows x).regs = s.regs := rfl
@[simp] theorem State.setFlows_exchange (x : FlowTable) : (s.setFlows x).exchange = s.exchange := rfl
@[simp] theorem State.setFlows_store (x : FlowTable) : (s.setFlows x).store = s.store := rfl
@[simp] theorem State.setFlows_memory (x : FlowTable) : (s.setFlows x).memory = s.memory := rfl
@[simp] theorem State.setFlows_wire (x : FlowTable) : (s.setFlows x).wire = s.wire := rfl
@[simp] theorem State.setFlows_access (x : FlowTable) : (s.setFlows x).access = s.access := rfl
@[simp] theorem State.setFlows_supply (x : FlowTable) : (s.setFlows x).supply = s.supply := rfl
@[simp] theorem State.setFlows_deliveries (x : FlowTable) : (s.setFlows x).deliveries = s.deliveries := rfl
@[simp] theorem State.setFlows_pending (x : FlowTable) : (s.setFlows x).pending = s.pending := rfl

/-! ## setWalk -/

@[simp] theorem State.setWalk_phase (x : Option Walk) : (s.setWalk x).phase = s.phase := rfl
@[simp] theorem State.setWalk_clock (x : Option Walk) : (s.setWalk x).clock = s.clock := rfl
@[simp] theorem State.setWalk_links (x : Option Walk) : (s.setWalk x).links = s.links := rfl
@[simp] theorem State.setWalk_cfg (x : Option Walk) : (s.setWalk x).cfg = s.cfg := rfl
@[simp] theorem State.setWalk_framers (x : Option Walk) : (s.setWalk x).framers = s.framers := rfl
@[simp] theorem State.setWalk_conditions (x : Option Walk) : (s.setWalk x).conditions = s.conditions := rfl
@[simp] theorem State.setWalk_radios (x : Option Walk) : (s.setWalk x).radios = s.radios := rfl
@[simp] theorem State.setWalk_probers (x : Option Walk) : (s.setWalk x).probers = s.probers := rfl
@[simp] theorem State.setWalk_judges (x : Option Walk) : (s.setWalk x).judges = s.judges := rfl
@[simp] theorem State.setWalk_selector (x : Option Walk) : (s.setWalk x).selector = s.selector := rfl
@[simp] theorem State.setWalk_flows (x : Option Walk) : (s.setWalk x).flows = s.flows := rfl
@[simp] theorem State.setWalk_walk (x : Option Walk) : (s.setWalk x).walk = x := rfl
@[simp] theorem State.setWalk_meters (x : Option Walk) : (s.setWalk x).meters = s.meters := rfl
@[simp] theorem State.setWalk_policer (x : Option Walk) : (s.setWalk x).policer = s.policer := rfl
@[simp] theorem State.setWalk_regs (x : Option Walk) : (s.setWalk x).regs = s.regs := rfl
@[simp] theorem State.setWalk_exchange (x : Option Walk) : (s.setWalk x).exchange = s.exchange := rfl
@[simp] theorem State.setWalk_store (x : Option Walk) : (s.setWalk x).store = s.store := rfl
@[simp] theorem State.setWalk_memory (x : Option Walk) : (s.setWalk x).memory = s.memory := rfl
@[simp] theorem State.setWalk_wire (x : Option Walk) : (s.setWalk x).wire = s.wire := rfl
@[simp] theorem State.setWalk_access (x : Option Walk) : (s.setWalk x).access = s.access := rfl
@[simp] theorem State.setWalk_supply (x : Option Walk) : (s.setWalk x).supply = s.supply := rfl
@[simp] theorem State.setWalk_deliveries (x : Option Walk) : (s.setWalk x).deliveries = s.deliveries := rfl
@[simp] theorem State.setWalk_pending (x : Option Walk) : (s.setWalk x).pending = s.pending := rfl

/-! ## setPolicer -/

@[simp] theorem State.setPolicer_phase (x : Policer) : (s.setPolicer x).phase = s.phase := rfl
@[simp] theorem State.setPolicer_clock (x : Policer) : (s.setPolicer x).clock = s.clock := rfl
@[simp] theorem State.setPolicer_links (x : Policer) : (s.setPolicer x).links = s.links := rfl
@[simp] theorem State.setPolicer_cfg (x : Policer) : (s.setPolicer x).cfg = s.cfg := rfl
@[simp] theorem State.setPolicer_framers (x : Policer) : (s.setPolicer x).framers = s.framers := rfl
@[simp] theorem State.setPolicer_conditions (x : Policer) : (s.setPolicer x).conditions = s.conditions := rfl
@[simp] theorem State.setPolicer_radios (x : Policer) : (s.setPolicer x).radios = s.radios := rfl
@[simp] theorem State.setPolicer_probers (x : Policer) : (s.setPolicer x).probers = s.probers := rfl
@[simp] theorem State.setPolicer_judges (x : Policer) : (s.setPolicer x).judges = s.judges := rfl
@[simp] theorem State.setPolicer_selector (x : Policer) : (s.setPolicer x).selector = s.selector := rfl
@[simp] theorem State.setPolicer_flows (x : Policer) : (s.setPolicer x).flows = s.flows := rfl
@[simp] theorem State.setPolicer_walk (x : Policer) : (s.setPolicer x).walk = s.walk := rfl
@[simp] theorem State.setPolicer_meters (x : Policer) : (s.setPolicer x).meters = s.meters := rfl
@[simp] theorem State.setPolicer_policer (x : Policer) : (s.setPolicer x).policer = x := rfl
@[simp] theorem State.setPolicer_regs (x : Policer) : (s.setPolicer x).regs = s.regs := rfl
@[simp] theorem State.setPolicer_exchange (x : Policer) : (s.setPolicer x).exchange = s.exchange := rfl
@[simp] theorem State.setPolicer_store (x : Policer) : (s.setPolicer x).store = s.store := rfl
@[simp] theorem State.setPolicer_memory (x : Policer) : (s.setPolicer x).memory = s.memory := rfl
@[simp] theorem State.setPolicer_wire (x : Policer) : (s.setPolicer x).wire = s.wire := rfl
@[simp] theorem State.setPolicer_access (x : Policer) : (s.setPolicer x).access = s.access := rfl
@[simp] theorem State.setPolicer_supply (x : Policer) : (s.setPolicer x).supply = s.supply := rfl
@[simp] theorem State.setPolicer_deliveries (x : Policer) : (s.setPolicer x).deliveries = s.deliveries := rfl
@[simp] theorem State.setPolicer_pending (x : Policer) : (s.setPolicer x).pending = s.pending := rfl

/-! ## setStore -/

@[simp] theorem State.setStore_phase (x : SettingsStore) : (s.setStore x).phase = s.phase := rfl
@[simp] theorem State.setStore_clock (x : SettingsStore) : (s.setStore x).clock = s.clock := rfl
@[simp] theorem State.setStore_links (x : SettingsStore) : (s.setStore x).links = s.links := rfl
@[simp] theorem State.setStore_cfg (x : SettingsStore) : (s.setStore x).cfg = s.cfg := rfl
@[simp] theorem State.setStore_framers (x : SettingsStore) : (s.setStore x).framers = s.framers := rfl
@[simp] theorem State.setStore_conditions (x : SettingsStore) : (s.setStore x).conditions = s.conditions := rfl
@[simp] theorem State.setStore_radios (x : SettingsStore) : (s.setStore x).radios = s.radios := rfl
@[simp] theorem State.setStore_probers (x : SettingsStore) : (s.setStore x).probers = s.probers := rfl
@[simp] theorem State.setStore_judges (x : SettingsStore) : (s.setStore x).judges = s.judges := rfl
@[simp] theorem State.setStore_selector (x : SettingsStore) : (s.setStore x).selector = s.selector := rfl
@[simp] theorem State.setStore_flows (x : SettingsStore) : (s.setStore x).flows = s.flows := rfl
@[simp] theorem State.setStore_walk (x : SettingsStore) : (s.setStore x).walk = s.walk := rfl
@[simp] theorem State.setStore_meters (x : SettingsStore) : (s.setStore x).meters = s.meters := rfl
@[simp] theorem State.setStore_policer (x : SettingsStore) : (s.setStore x).policer = s.policer := rfl
@[simp] theorem State.setStore_regs (x : SettingsStore) : (s.setStore x).regs = s.regs := rfl
@[simp] theorem State.setStore_exchange (x : SettingsStore) : (s.setStore x).exchange = s.exchange := rfl
@[simp] theorem State.setStore_store (x : SettingsStore) : (s.setStore x).store = x := rfl
@[simp] theorem State.setStore_memory (x : SettingsStore) : (s.setStore x).memory = s.memory := rfl
@[simp] theorem State.setStore_wire (x : SettingsStore) : (s.setStore x).wire = s.wire := rfl
@[simp] theorem State.setStore_access (x : SettingsStore) : (s.setStore x).access = s.access := rfl
@[simp] theorem State.setStore_supply (x : SettingsStore) : (s.setStore x).supply = s.supply := rfl
@[simp] theorem State.setStore_deliveries (x : SettingsStore) : (s.setStore x).deliveries = s.deliveries := rfl
@[simp] theorem State.setStore_pending (x : SettingsStore) : (s.setStore x).pending = s.pending := rfl

/-! ## emit -/

@[simp] theorem State.emit_phase (d : Delivery) : (s.emit d).phase = s.phase := rfl
@[simp] theorem State.emit_clock (d : Delivery) : (s.emit d).clock = s.clock := rfl
@[simp] theorem State.emit_links (d : Delivery) : (s.emit d).links = s.links := rfl
@[simp] theorem State.emit_cfg (d : Delivery) : (s.emit d).cfg = s.cfg := rfl
@[simp] theorem State.emit_framers (d : Delivery) : (s.emit d).framers = s.framers := rfl
@[simp] theorem State.emit_conditions (d : Delivery) : (s.emit d).conditions = s.conditions := rfl
@[simp] theorem State.emit_radios (d : Delivery) : (s.emit d).radios = s.radios := rfl
@[simp] theorem State.emit_probers (d : Delivery) : (s.emit d).probers = s.probers := rfl
@[simp] theorem State.emit_judges (d : Delivery) : (s.emit d).judges = s.judges := rfl
@[simp] theorem State.emit_selector (d : Delivery) : (s.emit d).selector = s.selector := rfl
@[simp] theorem State.emit_flows (d : Delivery) : (s.emit d).flows = s.flows := rfl
@[simp] theorem State.emit_walk (d : Delivery) : (s.emit d).walk = s.walk := rfl
@[simp] theorem State.emit_meters (d : Delivery) : (s.emit d).meters = s.meters := rfl
@[simp] theorem State.emit_policer (d : Delivery) : (s.emit d).policer = s.policer := rfl
@[simp] theorem State.emit_regs (d : Delivery) : (s.emit d).regs = s.regs := rfl
@[simp] theorem State.emit_exchange (d : Delivery) : (s.emit d).exchange = s.exchange := rfl
@[simp] theorem State.emit_store (d : Delivery) : (s.emit d).store = s.store := rfl
@[simp] theorem State.emit_memory (d : Delivery) : (s.emit d).memory = s.memory := rfl
@[simp] theorem State.emit_wire (d : Delivery) : (s.emit d).wire = s.wire := rfl
@[simp] theorem State.emit_access (d : Delivery) : (s.emit d).access = s.access := rfl
@[simp] theorem State.emit_supply (d : Delivery) : (s.emit d).supply = s.supply := rfl
@[simp] theorem State.emit_deliveries (d : Delivery) : (s.emit d).deliveries = s.deliveries ++ [d] := rfl
@[simp] theorem State.emit_pending (d : Delivery) : (s.emit d).pending = s.pending := rfl

/-! ## send -/

@[simp] theorem State.send_phase (o : Port) (frame : List Byte) : (s.send o frame).phase = s.phase := rfl
@[simp] theorem State.send_clock (o : Port) (frame : List Byte) : (s.send o frame).clock = s.clock := rfl
@[simp] theorem State.send_links (o : Port) (frame : List Byte) : (s.send o frame).links = s.links := rfl
@[simp] theorem State.send_cfg (o : Port) (frame : List Byte) : (s.send o frame).cfg = s.cfg := rfl
@[simp] theorem State.send_framers (o : Port) (frame : List Byte) : (s.send o frame).framers = s.framers := rfl
@[simp] theorem State.send_conditions (o : Port) (frame : List Byte) : (s.send o frame).conditions = s.conditions := rfl
@[simp] theorem State.send_radios (o : Port) (frame : List Byte) : (s.send o frame).radios = s.radios := rfl
@[simp] theorem State.send_probers (o : Port) (frame : List Byte) : (s.send o frame).probers = s.probers := rfl
@[simp] theorem State.send_judges (o : Port) (frame : List Byte) : (s.send o frame).judges = s.judges := rfl
@[simp] theorem State.send_selector (o : Port) (frame : List Byte) : (s.send o frame).selector = s.selector := rfl
@[simp] theorem State.send_flows (o : Port) (frame : List Byte) : (s.send o frame).flows = s.flows := rfl
@[simp] theorem State.send_walk (o : Port) (frame : List Byte) : (s.send o frame).walk = s.walk := rfl
@[simp] theorem State.send_meters (o : Port) (frame : List Byte) : (s.send o frame).meters = s.meters := rfl
@[simp] theorem State.send_policer (o : Port) (frame : List Byte) : (s.send o frame).policer = s.policer := rfl
@[simp] theorem State.send_regs (o : Port) (frame : List Byte) : (s.send o frame).regs = s.regs := rfl
@[simp] theorem State.send_exchange (o : Port) (frame : List Byte) : (s.send o frame).exchange = s.exchange := rfl
@[simp] theorem State.send_store (o : Port) (frame : List Byte) : (s.send o frame).store = s.store := rfl
@[simp] theorem State.send_memory (o : Port) (frame : List Byte) : (s.send o frame).memory = s.memory := rfl
@[simp] theorem State.send_wire (o : Port) (frame : List Byte) : (s.send o frame).wire = s.wire ++ [(o, frame)] := rfl
@[simp] theorem State.send_access (o : Port) (frame : List Byte) : (s.send o frame).access = s.access := rfl
@[simp] theorem State.send_supply (o : Port) (frame : List Byte) : (s.send o frame).supply = s.supply := rfl
@[simp] theorem State.send_deliveries (o : Port) (frame : List Byte) : (s.send o frame).deliveries = s.deliveries := rfl
@[simp] theorem State.send_pending (o : Port) (frame : List Byte) : (s.send o frame).pending = s.pending := rfl

/-! ## begin -/

@[simp] theorem State.begin_phase (m : Moment) : (s.begin m).phase = s.phase := rfl
@[simp] theorem State.begin_clock (m : Moment) : (s.begin m).clock = s.clock.advance m.elapsed := rfl
@[simp] theorem State.begin_links (m : Moment) : (s.begin m).links = s.links := rfl
@[simp] theorem State.begin_cfg (m : Moment) : (s.begin m).cfg = s.cfg := rfl
@[simp] theorem State.begin_framers (m : Moment) : (s.begin m).framers = s.framers := rfl
@[simp] theorem State.begin_conditions (m : Moment) : (s.begin m).conditions = s.conditions := rfl
@[simp] theorem State.begin_radios (m : Moment) : (s.begin m).radios = s.radios := rfl
@[simp] theorem State.begin_probers (m : Moment) : (s.begin m).probers = s.probers := rfl
@[simp] theorem State.begin_judges (m : Moment) : (s.begin m).judges = s.judges := rfl
@[simp] theorem State.begin_selector (m : Moment) : (s.begin m).selector = s.selector := rfl
@[simp] theorem State.begin_flows (m : Moment) : (s.begin m).flows = s.flows := rfl
@[simp] theorem State.begin_walk (m : Moment) : (s.begin m).walk = s.walk := rfl
@[simp] theorem State.begin_meters (m : Moment) : (s.begin m).meters = s.meters := rfl
@[simp] theorem State.begin_policer (m : Moment) : (s.begin m).policer = s.policer := rfl
@[simp] theorem State.begin_regs (m : Moment) : (s.begin m).regs = s.regs := rfl
@[simp] theorem State.begin_exchange (m : Moment) : (s.begin m).exchange = s.exchange := rfl
@[simp] theorem State.begin_store (m : Moment) : (s.begin m).store = s.store := rfl
@[simp] theorem State.begin_memory (m : Moment) : (s.begin m).memory = writeCells s.memory m.hostWrites := rfl
@[simp] theorem State.begin_wire (m : Moment) : (s.begin m).wire = s.wire := rfl
@[simp] theorem State.begin_access (m : Moment) : (s.begin m).access = m.failing := rfl
@[simp] theorem State.begin_supply (m : Moment) : (s.begin m).supply = m.supplyInRange := rfl
@[simp] theorem State.begin_deliveries (m : Moment) : (s.begin m).deliveries = s.deliveries := rfl
@[simp] theorem State.begin_pending (m : Moment) : (s.begin m).pending = s.pending := rfl

/-! ## walkTrigger -/

@[simp] theorem State.walkTrigger_phase (k : TriggerKind) : (s.walkTrigger k).phase = s.phase := rfl
@[simp] theorem State.walkTrigger_clock (k : TriggerKind) : (s.walkTrigger k).clock = s.clock := rfl
@[simp] theorem State.walkTrigger_links (k : TriggerKind) : (s.walkTrigger k).links = s.links := rfl
@[simp] theorem State.walkTrigger_cfg (k : TriggerKind) : (s.walkTrigger k).cfg = s.cfg := rfl
@[simp] theorem State.walkTrigger_framers (k : TriggerKind) : (s.walkTrigger k).framers = s.framers := rfl
@[simp] theorem State.walkTrigger_conditions (k : TriggerKind) : (s.walkTrigger k).conditions = s.conditions := rfl
@[simp] theorem State.walkTrigger_radios (k : TriggerKind) : (s.walkTrigger k).radios = s.radios := rfl
@[simp] theorem State.walkTrigger_probers (k : TriggerKind) : (s.walkTrigger k).probers = s.probers := rfl
@[simp] theorem State.walkTrigger_judges (k : TriggerKind) : (s.walkTrigger k).judges = s.judges := rfl
@[simp] theorem State.walkTrigger_selector (k : TriggerKind) : (s.walkTrigger k).selector = s.selector := rfl
@[simp] theorem State.walkTrigger_flows (k : TriggerKind) : (s.walkTrigger k).flows = s.flows := rfl
@[simp] theorem State.walkTrigger_meters (k : TriggerKind) : (s.walkTrigger k).meters = s.meters := rfl
@[simp] theorem State.walkTrigger_policer (k : TriggerKind) : (s.walkTrigger k).policer = s.policer := rfl
@[simp] theorem State.walkTrigger_regs (k : TriggerKind) : (s.walkTrigger k).regs = s.regs := rfl
@[simp] theorem State.walkTrigger_exchange (k : TriggerKind) : (s.walkTrigger k).exchange = s.exchange := rfl
@[simp] theorem State.walkTrigger_store (k : TriggerKind) : (s.walkTrigger k).store = s.store := rfl
@[simp] theorem State.walkTrigger_memory (k : TriggerKind) : (s.walkTrigger k).memory = s.memory := rfl
@[simp] theorem State.walkTrigger_wire (k : TriggerKind) : (s.walkTrigger k).wire = s.wire := rfl
@[simp] theorem State.walkTrigger_access (k : TriggerKind) : (s.walkTrigger k).access = s.access := rfl
@[simp] theorem State.walkTrigger_supply (k : TriggerKind) : (s.walkTrigger k).supply = s.supply := rfl
@[simp] theorem State.walkTrigger_deliveries (k : TriggerKind) : (s.walkTrigger k).deliveries = s.deliveries := rfl
@[simp] theorem State.walkTrigger_pending (k : TriggerKind) : (s.walkTrigger k).pending = s.pending := rfl

/-! ## Reading one block after an update of it -/

@[simp] theorem State.radio_setRadio (r : Radio) (x : RadioUnit) : (s.setRadio r x).radio r = x := PerRadio.get_set ..
@[simp] theorem State.judge_setJudge (u : Uplink) (x : Judgement) : (s.setJudge u x).judge u = x := PerUplink.get_set ..
@[simp] theorem State.prober_setProber (u : Uplink) (x : Prober) : (s.setProber u x).prober u = x := PerUplink.get_set ..
@[simp] theorem State.framer_setFramer (r : Radio) (x : RadioFramer) : (s.setFramer r x).framer r = x := PerRadio.get_set ..
@[simp] theorem State.meter_setMeter (r : Radio) (x : Meter) : (s.setMeter r x).meter r = x := PerRadio.get_set ..

/-! ## The register window -/

/-- No two registers share an offset, and each lies at its own (R183). -/
@[simp] theorem registerAt_registerOffset (r : RegisterName) : registerAt (registerOffset r) = some r := by cases r <;> rfl

@[simp] theorem State.writeWindow_register (r : RegisterName) (w : Word) : s.writeWindow (registerOffset r) w = s.writeRegister r w := by
  simp [State.writeWindow]

@[simp] theorem State.readWindow_register (r : RegisterName) : s.readWindow (registerOffset r) = some (s.readRegister r) := by
  simp [State.readWindow]

/-! ## What a running STORE does -/

/-- A block write stops the STORE at a reading out of range; else the 129th makes the copy the image and answers DONE, and every other
counts and leaves the header invalid (R180, R181). -/
theorem State.storeBlock_cases {r : StoreRun} (h : s.store.running = some r) :
    (s.supply = false ∧ s.storeBlock = s.stopStore r) ∨
    (s.supply = true ∧ 128 ≤ r.written ∧ s.storeBlock =
      (s.setStore ⟨some r.copy, s.store.report, none⟩).endTimed .store .done (s.storeWords r (r.written + 1))) ∨
    (s.supply = true ∧ r.written < 128 ∧ s.storeBlock =
      s.setStore ⟨none, s.store.report, some { r with written := r.written + 1 }⟩) := by
  have hn : storeWrites = 129 := rfl
  simp only [State.storeBlock, h, State.blockWritten]
  cases hs : s.supply
  · exact .inl ⟨rfl, rfl⟩
  · rcases Nat.lt_or_ge r.written 128 with hw | hw
    · exact .inr (.inr ⟨rfl, hw, by rw [if_pos rfl, if_neg (by omega)]⟩)
    · exact .inr (.inl ⟨rfl, hw, by rw [if_pos rfl, if_pos (by omega)]⟩)

end Machine

end Sys2Proof
end

