-- ==== Sys2Proof/Laws/Frames.lean ====
section
/-! SUPPORT. What the shared operations leave alone: one lemma for each operation. -/

namespace Sys2Proof.Machine

/-! ## OnlyExchange -/

namespace OnlyExchange

theorem refl (s : State) : OnlyExchange s s := by constructor <;> rfl

theorem trans {s t u : State} (h : OnlyExchange s t) (k : OnlyExchange t u) : OnlyExchange s u where
  phase := k.phase.trans h.phase
  clock := k.clock.trans h.clock
  links := k.links.trans h.links
  cfg := k.cfg.trans h.cfg
  framers := k.framers.trans h.framers
  conditions := k.conditions.trans h.conditions
  radios := k.radios.trans h.radios
  probers := k.probers.trans h.probers
  judges := k.judges.trans h.judges
  selector := k.selector.trans h.selector
  flows := k.flows.trans h.flows
  walk := k.walk.trans h.walk
  meters := k.meters.trans h.meters
  policer := k.policer.trans h.policer
  store := k.store.trans h.store
  wire := k.wire.trans h.wire
  supply := k.supply.trans h.supply
  deliveries := k.deliveries.trans h.deliveries
  pending := k.pending.trans h.pending

theorem steady {s t : State} (h : OnlyExchange s t) : Steady s t :=
  ⟨h.phase, h.clock, h.links, h.cfg, h.framers, h.conditions, h.flows, h.meters, h.policer, h.store, h.wire, h.supply, h.pending⟩

theorem usable {s t : State} (h : OnlyExchange s t) (u : Uplink) : t.usable u = s.usable u := by
  simp only [State.usable, State.judge, h.judges]

end OnlyExchange

variable (s : State)

theorem State.accessFailure_only : OnlyExchange s s.accessFailure := by constructor <;> rfl
theorem State.spend_only : OnlyExchange s s.spend := by constructor <;> rfl

theorem State.readAccess_only : OnlyExchange s s.readAccess := by
  unfold State.readAccess
  split
  · split
    · exact s.accessFailure_only
    · exact s.spend_only
  · exact .refl s

theorem State.writeAccess_only (a : Nat) (bs : List Byte) : OnlyExchange s (s.writeAccess a bs) := by
  unfold State.writeAccess
  split
  · split
    · exact s.accessFailure_only
    · constructor <;> rfl
  · exact .refl s

theorem State.writeStateWord_only : OnlyExchange s s.writeStateWord := s.writeAccess_only _ _

theorem State.recordNotice_only (n : Notice) : OnlyExchange s (s.recordNotice n) := by
  unfold State.recordNotice
  dsimp only
  have h := (s.writeAccess_only (s.area (noticeOffset (s.exchange.writeCount.toNat % 128))) (n.bytes s.now)).trans
    ((s.writeAccess _ _).writeAccess_only
      ((s.writeAccess (s.area (noticeOffset (s.exchange.writeCount.toNat % 128))) (n.bytes s.now)).area 4)
      (leBytes 2 (s.exchange.writeCount + 1).toNat))
  split
  · exact h.trans (by constructor <;> rfl)
  · exact h

theorem State.loseNotice_only : OnlyExchange s s.loseNotice :=
  OnlyExchange.trans (t := { s with exchange := { s.exchange with lostCount := bump s.exchange.lostCount },
                                    regs := s.regs.setCause causeLost })
    (by constructor <;> rfl) (State.writeAccess_only _ _ _)

theorem State.raise_only (n : Notice) : OnlyExchange s (s.raise n) := by
  unfold State.raise
  split
  · dsimp only
    split
    · split
      · exact s.readAccess_only.trans (State.recordNotice_only _ n)
      · exact s.readAccess_only.trans (State.loseNotice_only _)
    · exact s.readAccess_only
  · exact .refl s

theorem State.writeAnswerBody_only (a : Nat) (o : RequestOutcome) (body : List Word) :
    OnlyExchange s (s.writeAnswerBody a o body) := by
  unfold State.writeAnswerBody
  split
  · exact s.writeAccess_only _ _
  · exact .refl s

theorem State.writeAnswerBytes_only (slot : Nat) (o : RequestOutcome) (body : List Word) :
    OnlyExchange s (s.writeAnswerBytes slot o body) :=
  (((s.writeAnswerBody_only _ _ _).trans (State.writeAccess_only _ _ _)).trans (State.writeAccess_only _ _ _)).trans
    (State.writeAccess_only _ _ _)

theorem State.raiseAnswer_only : OnlyExchange s s.raiseAnswer := by
  unfold State.raiseAnswer
  split
  · constructor <;> rfl
  · exact .refl s

theorem State.writeAnswer_only (slot : Nat) (o : RequestOutcome) (body : List Word) : OnlyExchange s (s.writeAnswer slot o body) :=
  (s.writeAnswerBytes_only _ _ _).trans (State.raiseAnswer_only _)

theorem State.answer_only (slot : Fin 32) (kind : Nat) (tag : Word) (o : RequestOutcome) (body : List Word) :
    OnlyExchange s (s.answer slot kind tag o body) := by
  unfold State.answer
  split
  · dsimp only
    split
    · split
      · exact s.readAccess_only.trans (State.writeAnswer_only _ _ _ _)
      · exact s.readAccess_only.trans (State.raise_only _ _)
    · exact s.readAccess_only
  · exact .refl s

theorem State.reply_only (t : Ticket) (k : RequestKind) (o : RequestOutcome) (body : List Word) :
    OnlyExchange s (s.reply t k o body) := s.answer_only _ _ _ _ _

theorem State.endTimed_only (o : TimedOwner) (outcome : RequestOutcome) (body : List Word) :
    OnlyExchange s (s.endTimed o outcome body) := by
  unfold State.endTimed
  split
  · exact .refl s
  · dsimp only
    split
    · exact OnlyExchange.trans (t := { s with exchange := _ }) (by constructor <;> rfl) (State.answer_only _ _ _ _ _ _)
    · constructor <;> rfl

theorem State.beginTimed_only (o : TimedOwner) (t : Ticket) : OnlyExchange s (s.beginTimed o t) := by constructor <;> rfl
theorem State.setExchange_only (x : Exchange) : OnlyExchange s (s.setExchange x) := by constructor <;> rfl
theorem State.setRegs_only (x : Registers) : OnlyExchange s (s.setRegs x) := by constructor <;> rfl
theorem State.stopExchange_only : OnlyExchange s s.stopExchange := by constructor <;> rfl
theorem State.clearRun_only : OnlyExchange s s.clearRun := by constructor <;> rfl

theorem State.endWarm_only (r : Radio) (o : RequestOutcome) (b : Bool) : OnlyExchange s (s.endWarm r o b) :=
  s.endTimed_only _ _ _

theorem State.raiseRadioState_only (r : Radio) (old : RadioState) (c : RadioCause) :
    OnlyExchange s (s.raiseRadioState r old c) := s.raise_only _

theorem State.raiseSuppression_only (u : Uplink) (c : Nat) : OnlyExchange s (s.raiseSuppression u c) := s.raise_only _

/-! ## Steady -/

namespace Steady

theorem refl (s : State) : Steady s s := by constructor <;> rfl

theorem trans {s t u : State} (h : Steady s t) (k : Steady t u) : Steady s u where
  phase := k.phase.trans h.phase
  clock := k.clock.trans h.clock
  links := k.links.trans h.links
  cfg := k.cfg.trans h.cfg
  framers := k.framers.trans h.framers
  conditions := k.conditions.trans h.conditions
  flows := k.flows.trans h.flows
  meters := k.meters.trans h.meters
  policer := k.policer.trans h.policer
  store := k.store.trans h.store
  wire := k.wire.trans h.wire
  supply := k.supply.trans h.supply
  pending := k.pending.trans h.pending

end Steady

theorem State.setRadio_steady (r : Radio) (x : RadioUnit) : Steady s (s.setRadio r x) := by constructor <;> rfl
theorem State.setJudge_steady (u : Uplink) (x : Judgement) : Steady s (s.setJudge u x) := by constructor <;> rfl
theorem State.setProber_steady (u : Uplink) (x : Prober) : Steady s (s.setProber u x) := by constructor <;> rfl
theorem State.setSelector_steady (x : Selector) : Steady s (s.setSelector x) := by constructor <;> rfl
theorem State.emit_steady (d : Delivery) : Steady s (s.emit d) := by constructor <;> rfl
theorem State.walkTrigger_steady (k : TriggerKind) : Steady s (s.walkTrigger k) := by constructor <;> rfl
theorem State.raise_steady (n : Notice) : Steady s (s.raise n) := (s.raise_only n).steady

theorem State.refreshUsable_steady (u : Uplink) : Steady s (s.refreshUsable u) := by
  unfold State.refreshUsable
  dsimp only
  split
  · exact .refl s
  · exact ((s.setJudge_steady u _).trans (State.walkTrigger_steady _ _)).trans (State.emit_steady _ _)

theorem State.changeVerdict_steady (u : Uplink) (v : Verdict) (c : VerdictCause) (p : Bool) :
    Steady s (s.changeVerdict u v c p) := by
  unfold State.changeVerdict
  dsimp only
  split
  · exact .refl s
  · have h := ((s.setJudge_steady u ((s.judge u).withVerdict v p (s.cfg.judges.get u).suppress (s.after 1000))).trans
      (State.refreshUsable_steady _ u))
    split
    · exact (h.trans (State.raise_steady _ _)).trans (State.emit_steady _ _)
    · exact (((h.trans (State.raise_steady _ _)).trans (State.raiseSuppression_only _ _ _).steady).trans
        (State.emit_steady _ _)).trans (State.emit_steady _ _)

theorem State.clearJudge_steady (u : Uplink) : Steady s (s.clearJudge u) := s.setJudge_steady _ _

theorem State.resetJudgement_steady (r : Radio) (c : VerdictCause) : Steady s (s.resetJudgement r c) :=
  ((s.changeVerdict_steady _ _ _ _).trans (State.clearJudge_steady _ _)).trans (State.refreshUsable_steady _ _)

theorem State.failUplink_steady (u : Uplink) (c : VerdictCause) : Steady s (s.failUplink u c) := by
  unfold State.failUplink
  split
  · exact (s.clearJudge_steady u).trans (State.refreshUsable_steady _ _)
  · exact (s.changeVerdict_steady _ _ _ _).trans (State.refreshUsable_steady _ _)

theorem State.finishBurst_steady (u : Uplink) (b : Burst) (o : RequestOutcome) : Steady s (s.finishBurst u b o) :=
  (s.setProber_steady _ _).trans (State.endTimed_only _ _ _ _).steady

theorem State.emptyOutstanding_steady (u : Uplink) : Steady s (s.emptyOutstanding u) := by
  unfold State.emptyOutstanding
  dsimp only
  split
  · exact s.setProber_steady _ _
  · exact (s.setProber_steady _ _).trans (State.finishBurst_steady _ _ _ _)

theorem State.enterOff_steady (r : Radio) (c : RadioCause) : Steady s (s.enterOff r c) := by
  unfold State.enterOff
  dsimp only
  refine Steady.trans ?_ (State.emit_steady _ _)
  split
  · exact (((s.setRadio_steady _ _).trans (State.raiseRadioState_only _ _ _ _).steady).trans
      (State.resetJudgement_steady _ _ _)).trans (State.emptyOutstanding_steady _ _)
  · exact ((s.setRadio_steady _ _).trans (State.raiseRadioState_only _ _ _ _).steady).trans (State.resetJudgement_steady _ _ _)

theorem State.startWarm_steady (r : Radio) (c : RadioCause) : Steady s (s.startWarm r c) :=
  (((s.setRadio_steady _ _).trans (State.raiseRadioState_only _ _ _ _).steady).trans (State.refreshUsable_steady _ _)).trans
    (State.emit_steady _ _)

theorem State.askWarm_steady (r : Radio) (c : RadioCause) : Steady s (s.askWarm r c) := by
  unfold State.askWarm
  split
  · exact s.startWarm_steady r c
  · exact .refl s

theorem State.changeReady_steady (r : Radio) (x : RadioState) : Steady s (s.changeReady r x) :=
  ((s.setRadio_steady _ _).trans (State.raiseRadioState_only _ _ _ _).steady).trans (State.emit_steady _ _)

theorem State.retest_steady (r : Radio) : Steady s (s.retest r) := by
  unfold State.retest
  dsimp only
  split
  · exact s.enterOff_steady _ _
  · split
    · exact s.changeReady_steady _ _
    · exact .refl s

theorem State.setStranded_steady (b : Bool) : Steady s (s.setStranded b) :=
  ((s.setSelector_steady _).trans (State.writeStateWord_only _).steady).trans (State.raise_steady _ _)

theorem State.changeCarrier_steady (u : Uplink) (c : CarrierReason) : Steady s (s.changeCarrier u c) := by
  unfold State.changeCarrier
  dsimp only
  refine Steady.trans ?_ (State.walkTrigger_steady _ _)
  refine Steady.trans ?_ (State.emit_steady _ _)
  split
  · exact (((s.setSelector_steady _).trans (State.writeStateWord_only _).steady).trans (State.raise_steady _ _)).trans
      (State.setStranded_steady _ _)
  · exact ((s.setSelector_steady _).trans (State.writeStateWord_only _).steady).trans (State.raise_steady _ _)

theorem State.fromFibre_steady : Steady s s.fromFibre := by
  unfold State.fromFibre
  split
  · exact .refl s
  · split
    · exact s.changeCarrier_steady _ _
    · exact .refl s

theorem State.switchTest_steady (x : Radio) (b : Bool) : Steady s (s.switchTest x b) := by
  unfold State.switchTest
  split
  · split
    · split
      · exact s.changeCarrier_steady _ _
      · exact s.setSelector_steady _
    · exact .refl s
  · exact s.setSelector_steady _

theorem State.fromRadio_steady (x : Radio) (b : Bool) : Steady s (s.fromRadio x b) := by
  unfold State.fromRadio
  split
  · exact s.changeCarrier_steady _ _
  · split
    · exact s.switchTest_steady _ _
    · split
      · exact s.changeCarrier_steady _ _
      · split
        · exact s.changeCarrier_steady _ _
        · exact .refl s

theorem State.carrierProcedure_steady (b : Bool) : Steady s (s.carrierProcedure b) := by
  unfold State.carrierProcedure
  split
  · exact .refl s
  · split
    · exact s.fromFibre_steady
    · exact s.fromRadio_steady _ _

theorem State.testStranded_steady : Steady s s.testStranded := by
  unfold State.testStranded
  split
  · exact .refl s
  · exact s.setStranded_steady _

theorem State.emitAll_steady (l : List Radio) : ∀ s : State, Steady s (l.foldl (fun t r => t.emit (.autoWarm r)) s) := by
  induction l with
  | nil => exact fun s => .refl s
  | cons r t ih => exact fun s => (s.emit_steady _).trans (ih _)

theorem State.evaluate_steady (b : Bool) : Steady s (s.evaluate b) :=
  ((s.carrierProcedure_steady b).trans (State.testStranded_steady _)).trans (State.emitAll_steady _ _)

theorem State.usabilityAtSelector_steady (u : Uplink) (b : Bool) : Steady s (s.usabilityAtSelector u b) := by
  unfold State.usabilityAtSelector
  split
  · exact (s.setSelector_steady _).trans (State.evaluate_steady _ _)
  · exact s.evaluate_steady _
  · exact s.evaluate_steady _

theorem State.deliver_steady (d : Delivery) : Steady s (s.deliver d) := by
  cases d with
  | evaluate => exact s.evaluate_steady _
  | usability u b => exact s.usabilityAtSelector_steady _ _
  | carrierMoved => exact (s.retest_steady _).trans (State.retest_steady _ _)
  | countCrossed r => exact s.retest_steady _
  | autoWarm r => exact s.askWarm_steady _ _

/-- A predicate that no delivery changes, and that the list of deliveries is not part of, is not changed by settling. -/
theorem State.settle_keeps {P : State → Prop} (hl : ∀ (s : State) (ds : List Delivery), P s → P { s with deliveries := ds })
    (hd : ∀ (s : State) (d : Delivery), P s → P (s.deliver d)) : ∀ (n : Nat) (s : State), P s → P (State.settle n s) := by
  intro n
  induction n with
  | zero => exact fun s h => h
  | succ n ih =>
    intro s h
    unfold State.settle
    split
    · exact h
    · exact ih _ (hd _ _ (hl _ _ h))

theorem State.settle_steady (n : Nat) (s : State) : Steady s (State.settle n s) := by
  refine State.settle_keeps (P := fun t => Steady s t) ?_ ?_ n s (.refl s)
  · intro t ds h
    exact h.trans (by constructor <;> rfl)
  · intro t d h
    exact h.trans (t.deliver_steady d)

/-- With no delivery waiting, settling changes nothing. -/
theorem State.settle_idle (n : Nat) {s : State} (h : s.deliveries = []) : State.settle n s = s := by
  cases n with
  | zero => rfl
  | succ n => simp only [State.settle, h]

/-- A command whose effect leaves no delivery is that effect. -/
theorem State.go_idle {s t : State} {m : Moment} {f : State → State} (h : f (s.begin m) = t) (hd : t.deliveries = []) :
    s.go m f = .next t := by
  simp only [State.go, State.take, h, State.settle_idle _ hd]

/-- Every command answers a next state: its effect, with its deliveries taken. -/
theorem State.go_settles {s t : State} {m : Moment} {f : State → State} (h : f (s.begin m) = t) :
    s.go m f = .next (State.settle deliveryBound t) := by
  simp only [State.go, State.take, h]

@[simp] theorem State.begin_running (m : Moment) : (s.begin m).running = s.running := rfl

theorem whenSteering_on {s : State} {f : State → State} (h : s.phase = .steering) : whenSteering f s = f s := by
  simp [whenSteering, State.steering, h]

theorem whenSteering_off {s : State} {f : State → State} (h : s.phase ≠ .steering) : whenSteering f s = s := by
  simp [whenSteering, State.steering, h]

theorem whenRunning_on {s : State} {f : State → State} (h : s.phase = .steering) (hr : s.running = true) : whenRunning f s = f s := by
  simp [whenRunning, State.steering, h, hr]

theorem atRunout_on {s : State} {due : State → Option Word} {f : State → State} {w : Word} (h : s.phase = .steering) (hd : due s = some w)
    (hr : reached s.now w = true) : atRunout due f s = f s := by
  simp [atRunout, State.steering, h, hd, timerDue, hr]

end Sys2Proof.Machine
end

