-- ==== Sys2Proof/Laws/Memory.lean ====
section
/-! SUPPORT. Host memory: every write keeps the canonical form, a read after a write gives the byte written, and a write leaves every
other address alone. -/

namespace Sys2Proof.Machine

theorem cellsRise_weaken {low low' : Nat} (h : low' ≤ low) : ∀ {m : List Host.Cell}, cellsRise low m = true → cellsRise low' m = true
  | [], _ => rfl
  | (k, b) :: t, hm => by
    simp only [cellsRise, Bool.and_eq_true, decide_eq_true_eq] at hm ⊢
    exact ⟨⟨⟨h.trans hm.1.1.1, hm.1.1.2⟩, hm.1.2⟩, hm.2⟩

/-- Below its lowest address a memory in canonical form reads as unlisted. -/
theorem readCell_below {low : Nat} : ∀ {m : List Host.Cell} {a : Nat}, cellsRise low m = true → a < low → readCell m a = unlistedByte
  | [], _, _, _ => rfl
  | (k, b) :: t, a, hm, ha => by
    simp only [cellsRise, Bool.and_eq_true, decide_eq_true_eq] at hm
    rw [readCell, if_neg (by omega)]
    exact readCell_below hm.2 (by omega)

theorem writeCell_rise {a : Nat} {x : Byte} (ha : a < addressSpace) :
    ∀ {low : Nat} {m : List Host.Cell}, cellsRise low m = true → low ≤ a → cellsRise low (writeCell m a x) = true
  | low, [], _, hl => by
    unfold writeCell
    split
    · rfl
    · simpa [cellsRise, hl, ha] using ‹_›
  | low, (k, b) :: t, hm, hl => by
    have hk := hm
    simp only [cellsRise, Bool.and_eq_true, decide_eq_true_eq] at hk
    obtain ⟨⟨⟨h1, h2⟩, h3⟩, h4⟩ := hk
    unfold writeCell
    split
    · split
      · exact hm
      · simp only [cellsRise, Bool.and_eq_true, decide_eq_true_eq, bne_iff_ne]
        exact ⟨⟨⟨hl, ha⟩, ‹_›⟩, ⟨⟨by omega, h2⟩, by simpa using h3⟩, h4⟩
    · split
      · split
        · exact cellsRise_weaken (by omega) h4
        · simp only [cellsRise, Bool.and_eq_true, decide_eq_true_eq, bne_iff_ne]
          exact ⟨⟨⟨hl, ha⟩, ‹_›⟩, by rw [‹a = k›]; exact h4⟩
      · simp only [cellsRise, Bool.and_eq_true, decide_eq_true_eq]
        exact ⟨⟨⟨h1, h2⟩, h3⟩, writeCell_rise ha h4 (by omega)⟩

theorem readCell_writeCell {a c : Nat} {x : Byte} :
    ∀ {low : Nat} {m : List Host.Cell}, cellsRise low m = true → readCell (writeCell m a x) c = if c = a then x else readCell m c
  | low, [], _ => by
    unfold writeCell
    by_cases hx : x = unlistedByte <;> by_cases hc : c = a <;> simp [hx, hc, readCell, eq_comm]
    intro h; exact absurd h.symm hc
  | low, (k, b) :: t, hm => by
    have hk := hm
    simp only [cellsRise, Bool.and_eq_true, decide_eq_true_eq] at hk
    unfold writeCell
    by_cases hak : a < k
    · rw [if_pos hak]
      by_cases hx : x = unlistedByte
      · rw [if_pos hx]
        by_cases hc : c = a
        · subst hc
          rw [if_pos rfl, readCell, if_neg (by omega), readCell_below hk.2 (by omega), hx]
        · rw [if_neg hc]
      · rw [if_neg hx, readCell]
        by_cases hc : c = a
        · rw [if_pos hc, if_pos hc.symm]
        · rw [if_neg hc, if_neg (fun h => hc h.symm)]
    · rw [if_neg hak]
      by_cases hek : a = k
      · subst hek
        rw [if_pos rfl]
        by_cases hx : x = unlistedByte
        · rw [if_pos hx]
          by_cases hc : c = a
          · subst hc
            rw [if_pos rfl, readCell_below hk.2 (by omega), hx]
          · rw [if_neg hc, readCell, if_neg (fun h => hc h.symm)]
        · rw [if_neg hx, readCell, readCell]
          by_cases hc : c = a
          · rw [if_pos hc, if_pos hc.symm]
          · rw [if_neg hc, if_neg (fun h => hc h.symm), if_neg (fun h => hc h.symm)]
      · rw [if_neg hek, readCell, readCell_writeCell hk.2, readCell]
        by_cases hc : k = c
        · subst hc
          rw [if_pos rfl, if_neg (fun h => hek h.symm), if_pos rfl]
        · rw [if_neg hc, if_neg hc]

/-! ## Bytes at wrapped addresses -/

theorem writeByte_wf {m : List Host.Cell} (h : memoryWf m = true) (a : Nat) (x : Byte) : memoryWf (writeByte m a x) = true :=
  writeCell_rise (Nat.mod_lt _ (by decide)) h (Nat.zero_le _)

theorem readByte_writeByte {m : List Host.Cell} (h : memoryWf m = true) (a c : Nat) (x : Byte) :
    readByte (writeByte m a x) c = if c % addressSpace = a % addressSpace then x else readByte m c :=
  readCell_writeCell h

theorem writeBytes_wf : ∀ {m : List Host.Cell} {a : Nat} (l : List Byte), memoryWf m = true → memoryWf (writeBytes m a l) = true
  | _, _, [], h => h
  | _, _, _ :: l, h => writeBytes_wf l (writeByte_wf h _ _)

theorem writeCells_wf : ∀ {m : List Host.Cell} (l : List Host.Cell), memoryWf m = true → memoryWf (writeCells m l) = true
  | _, [], h => h
  | _, _ :: l, h => writeCells_wf l (writeByte_wf h _ _)

/-- A write of bytes leaves every other address alone. -/
theorem readByte_writeBytes_other : ∀ {m : List Host.Cell} {a : Nat} (l : List Byte) {c : Nat}, memoryWf m = true →
    ¬ among a l.length c → readByte (writeBytes m a l) c = readByte m c
  | _, _, [], _, _, _ => rfl
  | m, a, x :: l, c, h, hc => by
    rw [writeBytes, readByte_writeBytes_other l (writeByte_wf h _ _), readByte_writeByte h, if_neg]
    · exact fun he => hc ⟨0, by simp, by simpa using he⟩
    · rintro ⟨j, hj, he⟩
      exact hc ⟨j + 1, by simpa using hj, by rw [he]; congr 1; omega⟩

/-- A read after a write gives the byte written. -/
theorem readByte_writeBytes : ∀ {m : List Host.Cell} {a : Nat} (l : List Byte) (j : Nat), memoryWf m = true → l.length ≤ addressSpace →
    (hj : j < l.length) → readByte (writeBytes m a l) (a + j) = l[j]
  | m, a, x :: l, 0, h, hl, _ => by
    rw [writeBytes, readByte_writeBytes_other l (writeByte_wf h _ _), readByte_writeByte h, if_pos (by simp)]
    · rfl
    · rintro ⟨j, hj, he⟩
      simp only [List.length_cons] at hl
      unfold addressSpace at *
      omega
  | m, a, x :: l, j + 1, h, hl, hj => by
    have hj' : j < l.length := by simpa using hj
    rw [writeBytes, show a + (j + 1) = a + 1 + j by omega,
      readByte_writeBytes l j (writeByte_wf h _ _) (by simp at hl; omega) hj']
    rfl

theorem readBytes_length (m : List Host.Cell) : ∀ (n a : Nat), (readBytes m a n).length = n
  | 0, _ => rfl
  | n + 1, a => by simp [readBytes, readBytes_length m n (a + 1)]

theorem readBytes_congr {m m' : List Host.Cell} : ∀ (n a : Nat), (∀ j, j < n → readByte m' (a + j) = readByte m (a + j)) →
    readBytes m' a n = readBytes m a n
  | 0, _, _ => rfl
  | n + 1, a, h => by
    have h0 : readByte m' a = readByte m a := h 0 (by omega)
    have ht : readBytes m' (a + 1) n = readBytes m (a + 1) n := readBytes_congr n (a + 1) (fun j hj => by
      rw [show a + 1 + j = a + (j + 1) by omega]; exact h (j + 1) (by omega))
    simp only [readBytes, h0, ht]

theorem readBytes_eq : ∀ {m : List Host.Cell} {a : Nat} (l : List Byte),
    (∀ (j : Nat) (hj : j < l.length), readByte m (a + j) = l[j]) → readBytes m a l.length = l
  | _, _, [], _ => rfl
  | m, a, x :: l, h => by
    have h0 : readByte m a = x := h 0 (by simp)
    rw [List.length_cons, readBytes, h0, readBytes_eq l (fun j hj => by
      have := h (j + 1) (by simpa using hj)
      rw [show a + 1 + j = a + (j + 1) by omega, this]; rfl)]

/-- The bytes written are read back. -/
theorem readBytes_writeBytes {m : List Host.Cell} {a : Nat} (l : List Byte) (h : memoryWf m = true) (hl : l.length ≤ addressSpace) :
    readBytes (writeBytes m a l) a l.length = l :=
  readBytes_eq l (fun j hj => readByte_writeBytes l j h hl hj)

/-- Bytes read where nothing was written are as before. -/
theorem readBytes_writeBytes_other {m : List Host.Cell} {a : Nat} (l : List Byte) {c n : Nat} (h : memoryWf m = true)
    (hc : ∀ j, j < n → ¬ among a l.length (c + j)) : readBytes (writeBytes m a l) c n = readBytes m c n :=
  readBytes_congr n c (fun j hj => readByte_writeBytes_other l h (hc j hj))

theorem leBytes_length : ∀ (n v : Nat), (leBytes n v).length = n
  | 0, _ => rfl
  | n + 1, v => by simp [leBytes, leBytes_length n]

/-- A number of so many bytes is read back from its bytes. -/
theorem leNat_leBytes : ∀ (n v : Nat), leNat (leBytes n v) = v % 256 ^ n
  | 0, v => by simp [leBytes, leNat, Nat.mod_one]
  | n + 1, v => by
    have h2 : v % (256 * 256 ^ n) = v % 256 + 256 * (v / 256 % 256 ^ n) := Nat.mod_mul
    rw [leBytes, leNat, leNat_leBytes n, BitVec.toNat_ofNat, show (256 : Nat) ^ (n + 1) = 256 * 256 ^ n by ring, h2]

end Sys2Proof.Machine
end

