-- ==== Sys2Proof/Laws/Answers.lean ====
section
/-! SUPPORT. What an answer does, said once: accesses that complete, and an answer whose slot reads TAKEN. -/

namespace Sys2Proof.Machine

/-! ## Places within an area -/

theorem among_offset {b i n j : Nat} (hn : i + n ≤ addressSpace) (hj : j < addressSpace) :
    among (b + i) n (b + j) ↔ i ≤ j ∧ j < i + n := by
  unfold among addressSpace at *
  constructor
  · rintro ⟨k, hk, he⟩
    omega
  · rintro ⟨h1, h2⟩
    exact ⟨j - i, by omega, by congr 1; omega⟩

theorem among_base {b n j : Nat} (hn : n ≤ addressSpace) (hj : j < addressSpace) : among b n (b + j) ↔ j < n := by
  have h := among_offset (b := b) (i := 0) (n := n) (j := j) (by omega) hj
  simpa using h

theorem among_within {b i n k c : Nat} (h : among (b + i) n c) (hk : i + n ≤ k) : among b k c := by
  obtain ⟨j, hj, he⟩ := h
  exact ⟨i + j, by omega, by rw [he]; congr 1; omega⟩

variable {s : State}

/-! ## Accesses of a command none of which fails -/

theorem State.readAccess_clean (ha : s.access = none) : s.readAccess = s := by
  unfold State.readAccess State.spend
  split
  · rw [if_neg (by rw [ha]; simp)]
    cases s; simp_all
  · rfl

/-- The state with other contents of host memory. -/
def State.withMemory (s : State) (m : List Host.Cell) : State := { s with memory := m }

@[simp] theorem State.withMemory_running (m : List Host.Cell) : (s.withMemory m).running = s.running := rfl
@[simp] theorem State.withMemory_access (m : List Host.Cell) : (s.withMemory m).access = s.access := rfl
@[simp] theorem State.withMemory_memory (m : List Host.Cell) : (s.withMemory m).memory = m := rfl
@[simp] theorem State.withMemory_withMemory (m n : List Host.Cell) : (s.withMemory m).withMemory n = s.withMemory n := rfl
@[simp] theorem State.withMemory_area (m : List Host.Cell) (n : Nat) : (s.withMemory m).area n = s.area n := rfl
@[simp] theorem State.withMemory_now (m : List Host.Cell) : (s.withMemory m).now = s.now := rfl
@[simp] theorem State.withMemory_same : s.withMemory s.memory = s := rfl

theorem State.writeAccess_clean (hr : s.running = true) (ha : s.access = none) (a : Nat) (l : List Byte) :
    s.writeAccess a l = s.withMemory (writeBytes s.memory a l) := by
  unfold State.writeAccess State.spend State.withMemory
  rw [if_pos hr, if_neg (by rw [ha]; simp)]
  cases s; simp_all

theorem State.withMemory_writeAccess (hr : s.running = true) (ha : s.access = none) (m : List Host.Cell) (a : Nat) (l : List Byte) :
    (s.withMemory m).writeAccess a l = s.withMemory (writeBytes m a l) :=
  State.writeAccess_clean (s := s.withMemory m) hr ha a l

/-! ## The bytes of an answer -/

/-- Host memory after the bytes of an answer: body, outcome, answer time, token. -/
def answerMemory (mem : List Host.Cell) (slot : Nat) (o : RequestOutcome) (body : List Word) (now : Word) : List Host.Cell :=
  writeBytes (writeBytes (writeBytes
    (if o.writesBody && !body.isEmpty then writeBytes mem (slot + 16) (body.flatMap wordBytes) else mem)
    (slot + 2) (leBytes 1 (outcomeCode o))) (slot + 8) (wordBytes now)) slot (leBytes 1 tokenAnswered)

theorem State.writeAnswerBody_clean (hr : s.running = true) (ha : s.access = none) (a : Nat) (o : RequestOutcome) (body : List Word) :
    s.writeAnswerBody a o body = s.withMemory (if o.writesBody && !body.isEmpty then writeBytes s.memory (a + 16) (body.flatMap wordBytes)
      else s.memory) := by
  unfold State.writeAnswerBody
  split
  · exact State.writeAccess_clean hr ha _ _
  · rfl

theorem State.writeAnswer_clean (hr : s.running = true) (ha : s.access = none) (slot : Nat) (o : RequestOutcome) (body : List Word) :
    s.writeAnswer slot o body = { s.withMemory (answerMemory s.memory (s.area (slotOffset slot)) o body s.now) with
      regs := s.regs.setCause causeAnswer } := by
  have h1 : s.writeAnswerBytes slot o body = s.withMemory (answerMemory s.memory (s.area (slotOffset slot)) o body s.now) := by
    unfold State.writeAnswerBytes answerMemory
    simp only [State.writeAnswerBody_clean hr ha]
    rw [State.withMemory_writeAccess hr ha, State.withMemory_writeAccess hr ha, State.withMemory_writeAccess hr ha]
  unfold State.writeAnswer State.raiseAnswer
  rw [h1, if_pos (by exact hr)]
  rfl

theorem State.answer_clean (hr : s.running = true) (ha : s.access = none) {slot : Fin 32} (ht : s.token slot = tokenTaken)
    (kind : Nat) (tag : Word) (o : RequestOutcome) (body : List Word) :
    s.answer slot kind tag o body = { s.withMemory (answerMemory s.memory (s.area (slotOffset slot)) o body s.now) with
      regs := s.regs.setCause causeAnswer } := by
  unfold State.answer
  rw [if_pos hr]
  dsimp only
  rw [State.readAccess_clean ha, if_pos hr, if_pos ht, State.writeAnswer_clean hr ha]

theorem wordBytes_length (w : Word) : (wordBytes w).length = 4 := leBytes_length 4 _

theorem flatMap_wordBytes_length (body : List Word) : (body.flatMap wordBytes).length = 4 * body.length := by
  induction body with
  | nil => rfl
  | cons w t ih => simp only [List.flatMap_cons, List.length_append, wordBytes_length, ih, List.length_cons]; omega

theorem flatMap_wordBytes_slice : ∀ (body : List Word) (i : Nat) (h : i < body.length),
    ((body.flatMap wordBytes).drop (4 * i)).take 4 = wordBytes body[i]
  | w :: t, 0, _ => by
    simp only [List.flatMap_cons, Nat.mul_zero, List.drop_zero, List.getElem_cons_zero]
    rw [List.take_append_of_le_length (by rw [wordBytes_length]), List.take_of_length_le (by rw [wordBytes_length])]
  | w :: t, i + 1, h => by
    simp only [List.flatMap_cons, List.getElem_cons_succ]
    rw [List.drop_append, List.drop_of_length_le (by rw [wordBytes_length]; omega), List.nil_append, wordBytes_length,
      show 4 * (i + 1) - 4 = 4 * i by omega]
    exact flatMap_wordBytes_slice t i (by simpa using h)

theorem word_leNat_wordBytes (w : Word) : word (leNat (wordBytes w)) = w := by
  unfold wordBytes word
  rw [leNat_leBytes, show (256 : Nat) ^ 4 = 2 ^ 32 by norm_num, Nat.mod_eq_of_lt w.isLt]
  exact BitVec.eq_of_toNat_eq (by simp)

section
variable {mem : List Host.Cell} {slot : Nat} {o : RequestOutcome} {body : List Word} {now : Word}

/-- Host memory after the body of an answer. -/
def bodyMemory (mem : List Host.Cell) (slot : Nat) (o : RequestOutcome) (body : List Word) : List Host.Cell :=
  if o.writesBody && !body.isEmpty then writeBytes mem (slot + 16) (body.flatMap wordBytes) else mem

theorem bodyMemory_wf (h : memoryWf mem = true) : memoryWf (bodyMemory mem slot o body) = true := by
  unfold bodyMemory
  split
  · exact writeBytes_wf _ h
  · exact h

theorem bodyMemory_other (h : memoryWf mem = true) {c : Nat} (hc : o.writesBody = false ∨ ¬ among (slot + 16) (4 * body.length) c) :
    readByte (bodyMemory mem slot o body) c = readByte mem c := by
  unfold bodyMemory
  split
  · rename_i hb
    refine readByte_writeBytes_other _ h ?_
    rw [flatMap_wordBytes_length]
    rcases hc with hc | hc
    · simp [hc] at hb
    · exact hc
  · rfl

theorem answerMemory_wf (h : memoryWf mem = true) : memoryWf (answerMemory mem slot o body now) = true :=
  writeBytes_wf _ (writeBytes_wf _ (writeBytes_wf _ (bodyMemory_wf h)))

/-- Outside the bytes of the outcome, the time and the token an answer leaves what its body left. -/
theorem answerMemory_rest (h : memoryWf mem = true) {c : Nat} (h0 : ¬ among slot 1 c) (h2 : ¬ among (slot + 2) 1 c)
    (h8 : ¬ among (slot + 8) 4 c) : readByte (answerMemory mem slot o body now) c = readByte (bodyMemory mem slot o body) c := by
  have hw := bodyMemory_wf (slot := slot) (o := o) (body := body) h
  show readByte (writeBytes (writeBytes (writeBytes (bodyMemory mem slot o body) _ _) _ _) _ _) c = _
  rw [readByte_writeBytes_other _ (writeBytes_wf _ (writeBytes_wf _ hw)) h0,
    readByte_writeBytes_other _ (writeBytes_wf _ hw) h8, readByte_writeBytes_other _ hw h2]

theorem answerMemory_token (h : memoryWf mem = true) : (readByte (answerMemory mem slot o body now) slot).toNat = tokenAnswered := by
  have hw := bodyMemory_wf (slot := slot) (o := o) (body := body) h
  have e := readByte_writeBytes (a := slot) (leBytes 1 tokenAnswered) 0
    (writeBytes_wf (a := slot + 8) (wordBytes now) (writeBytes_wf (a := slot + 2) (leBytes 1 (outcomeCode o)) hw)) (by decide) (by decide)
  exact (congrArg BitVec.toNat e).trans (by decide)

theorem answerMemory_outcome (h : memoryWf mem = true) :
    readByte (answerMemory mem slot o body now) (slot + 2) = BitVec.ofNat 8 (outcomeCode o) := by
  have hw := bodyMemory_wf (slot := slot) (o := o) (body := body) h
  show readByte (writeBytes (writeBytes (writeBytes (bodyMemory mem slot o body) _ _) _ _) _ _) _ = _
  rw [readByte_writeBytes_other _ (writeBytes_wf _ (writeBytes_wf _ hw))
      (by rw [among_base (by decide) (by decide)]; decide),
    readByte_writeBytes_other _ (writeBytes_wf _ hw) (by rw [wordBytes_length, among_offset (by decide) (by decide)]; omega)]
  exact readByte_writeBytes (a := slot + 2) (leBytes 1 (outcomeCode o)) 0 hw (by simp [leBytes_length]; decide) (by simp [leBytes_length])

theorem answerMemory_time (h : memoryWf mem = true) :
    word (leNat (readBytes (answerMemory mem slot o body now) (slot + 8) 4)) = now := by
  have hw := bodyMemory_wf (slot := slot) (o := o) (body := body) h
  have hm := writeBytes_wf (a := slot + 2) (leBytes 1 (outcomeCode o)) hw
  show word (leNat (readBytes (writeBytes (writeBytes (writeBytes (bodyMemory mem slot o body) _ _) _ _) _ _) _ _)) = _
  rw [readBytes_writeBytes_other _ (writeBytes_wf _ hm) (fun j hj => by
    rw [Nat.add_assoc, leBytes_length, among_base (by decide) (by unfold addressSpace; omega)]; omega)]
  have e := readBytes_writeBytes (a := slot + 8) (wordBytes now) hm (by rw [wordBytes_length]; decide)
  rw [wordBytes_length] at e
  rw [e, word_leNat_wordBytes]

theorem readBytes_slice {l : List Byte} (h : memoryWf mem = true) {a k n : Nat} (hl : l.length ≤ addressSpace) (hk : k + n ≤ l.length) :
    readBytes (writeBytes mem a l) (a + k) n = (l.drop k).take n := by
  have hlen : ((l.drop k).take n).length = n := by simp; omega
  have e := readBytes_eq (m := writeBytes mem a l) (a := a + k) ((l.drop k).take n) (fun j hj => by
    have hj' : j < n := by rw [hlen] at hj; exact hj
    rw [Nat.add_assoc, readByte_writeBytes l (k + j) h hl (by omega)]
    simp)
  rwa [hlen] at e

theorem answerMemory_words (h : memoryWf mem = true) (ho : o.writesBody = true) (hl : body.length ≤ 28) (i : Nat) (hi : i < body.length) :
    word (leNat (readBytes (answerMemory mem slot o body now) (slot + 16 + 4 * i) 4)) = body[i] := by
  have e : readBytes (answerMemory mem slot o body now) (slot + 16 + 4 * i) 4 = readBytes (bodyMemory mem slot o body) (slot + 16 + 4 * i) 4 := by
    refine readBytes_congr _ _ (fun j hj => ?_)
    have hs : slot + 16 + 4 * i + j = slot + (16 + 4 * i + j) := by omega
    rw [hs]
    refine answerMemory_rest h ?_ ?_ ?_
    · rw [among_base (by decide) (by unfold addressSpace; omega)]; omega
    · rw [among_offset (by decide) (by unfold addressSpace; omega)]; omega
    · rw [among_offset (by decide) (by unfold addressSpace; omega)]; omega
  have hne : body.isEmpty = false := by cases body <;> simp_all
  rw [e]
  unfold bodyMemory
  rw [if_pos (by simp [ho, hne]), readBytes_slice h (by rw [flatMap_wordBytes_length]; unfold addressSpace; omega)
    (by rw [flatMap_wordBytes_length]; omega), flatMap_wordBytes_slice body i hi, word_leNat_wordBytes]

end

theorem State.area_memory (m : List Host.Cell) (g : Registers) (h : g.areaLow = s.regs.areaLow) (k : g.areaHigh = s.regs.areaHigh) (n : Nat) :
    ({ s with memory := m, regs := g }).area n = s.area n := by
  simp only [State.area, Registers.areaBase, h, k]

/-- An answer, said once: with the exchange running, no access failing and the slot reading TAKEN, an answer writes itself into the slot
and sets ANSWER, and does nothing else. -/
theorem State.answer_from (hr : s.running = true) (ha : s.access = none) (hm : memoryWf s.memory = true) (k : Ticket)
    (ht : s.token k.slot = tokenTaken) (kind : Nat) (o : RequestOutcome) {body : List Word} (hl : body.length ≤ 28) :
    AnsweredFrom s (s.answer k.slot kind k.tag o body) k o body := by
  rw [State.answer_clean hr ha ht]
  refine ⟨⟨answerMemory_token hm, ?_, ?_, fun ho i hi => ?_, ?_⟩, rfl, ?_, ?_⟩
  · exact answerMemory_outcome hm
  · exact answerMemory_time hm
  · exact answerMemory_words hm ho hl i hi
  · show (s.regs.cause ||| causeAnswer).getLsbD 0 = true
    rw [BitVec.getLsbD_or]
    simp [causeAnswer]
  · intro j hj h0 h2 h8 hb
    have hd : j < addressSpace := by unfold addressSpace; omega
    refine (answerMemory_rest hm ?_ ?_ ?_).trans (bodyMemory_other hm ?_)
    · show ¬ among (s.slotAddress k) 1 (s.slotAddress k + j)
      rw [among_base (by decide) hd]; omega
    · show ¬ among (s.slotAddress k + 2) 1 (s.slotAddress k + j)
      rw [among_offset (by decide) hd]; omega
    · show ¬ among (s.slotAddress k + 8) 4 (s.slotAddress k + j)
      rw [among_offset (by decide) hd]; omega
    · rcases hb with hb | hb | hb
      · right
        show ¬ among (s.slotAddress k + 16) _ (s.slotAddress k + j)
        rw [among_offset (by unfold addressSpace; omega) hd]; omega
      · exact .inl hb
      · right
        show ¬ among (s.slotAddress k + 16) _ (s.slotAddress k + j)
        rw [among_offset (by unfold addressSpace; omega) hd]; omega
  · intro a hn
    refine (answerMemory_rest hm (fun h => hn ?_) (fun h => hn ?_) (fun h => hn ?_)).trans (bodyMemory_other hm (.inr fun h => hn ?_))
    · obtain ⟨j, hj, he⟩ := h; exact ⟨j, by omega, he⟩
    · exact among_within h (by omega)
    · exact among_within h (by omega)
    · exact among_within h (by omega)

end Sys2Proof.Machine
end

