-- ==== Sys2Proof/Laws/Datagrams.lean ====
section
/-! SUPPORT. Frames and carry datagrams: an FCS is right, the length of an outer datagram, a carry header read back, and what the checks of
R12 accept. -/

namespace Sys2Proof.Machine

/-! ## Lengths and numbers -/

@[simp] theorem beBytes_length (n v : Nat) : (beBytes n v).length = n := by simp [beBytes, leBytes_length]

theorem beNat_beBytes (n v : Nat) : beNat (beBytes n v) = v % 256 ^ n := by simp [beNat, beBytes, leNat_leBytes]

/-- A number read back where it was written. -/
theorem beAt_append {a b c : List Byte} {n v i : Nat} (hi : a.length = i) (hv : v < 256 ^ n) (h : b = a ++ (beBytes n v ++ c)) :
    beAt b i n = v := by
  subst hi h
  rw [beAt, slice, List.drop_append_of_le_length (Nat.le_refl _), List.drop_length, List.nil_append,
    List.take_append_of_le_length (by simp), List.take_of_length_le (by simp), beNat_beBytes, Nat.mod_eq_of_lt hv]

/-! ## The FCS -/

@[simp] theorem fcsBytes_length (b : List Byte) : (fcsBytes b).length = 4 := wordBytes_length _

@[simp] theorem withFcs_length (b : List Byte) : (withFcs b).length = b.length + 4 := by simp [withFcs]

@[simp] theorem lessFcs_withFcs (b : List Byte) : lessFcs (withFcs b) = b := by
  rw [lessFcs, withFcs_length, Nat.add_sub_cancel, withFcs, List.take_append_of_le_length (Nat.le_refl _), List.take_length]

@[simp] theorem fcsRight_withFcs (b : List Byte) : fcsRight (withFcs b) = true := by
  rw [fcsRight, lessFcs_withFcs, withFcs_length, Nat.add_sub_cancel, withFcs, List.drop_append_of_le_length (Nat.le_refl _),
    List.drop_length]
  simp

/-! ## Outer datagrams -/

@[simp] theorem wireAddress_length (v : IpVersion) (a : Address) : (wireAddress v a).length = (match v with | .v4 => 4 | .v6 => 16) := by
  cases v <;> simp [wireAddress, addressBytes]

/-- The on-air length of a datagram sent: the outer IP and UDP headers and the carry payload (R148). -/
theorem outerDatagram_length (c : AddressRecord) (service : Nat) (payload : List Byte) :
    (outerDatagram c service payload).length = payload.length + (overhead c.version - carryHeaderLength) := by
  unfold outerDatagram outerUdp outerIpv4Header overhead carryHeaderLength
  cases c.version <;> simp <;> omega

@[simp] theorem CarryHeader.bytes_length (h : CarryHeader) : h.bytes.length = 16 := by simp [CarryHeader.bytes]

/-- One byte read back. -/
theorem byteAt_beBytes {a c b : List Byte} {v i : Nat} (hi : a.length = i) (hv : v < 256) (h : b = a ++ (beBytes 1 v ++ c)) :
    (byteAt b i).toNat = v := by
  subst hi h
  simp [byteAt, beBytes, leBytes, Nat.mod_eq_of_lt hv]

/-- A carry header is read back as it was written (R187). -/
theorem readCarryHeader_bytes {h : CarryHeader} (hf : h.Fits) (inner : List Byte) : readCarryHeader (h.bytes ++ inner) = h := by
  obtain ⟨hv, hk, hp, hc, ht⟩ := hf
  have e : h.bytes ++ inner = beBytes 1 (16 * h.version + h.kind) ++ (beBytes 1 h.path ++ (beBytes 1 h.cls ++ (beBytes 1 h.part ++
      (beBytes 4 h.sequence.toNat ++ (beBytes 4 h.siteId.toNat ++ (beBytes 2 h.probeSeq.toNat ++ (beBytes 2 h.nonce.toNat ++ inner))))))) := by
    simp only [CarryHeader.bytes, List.append_assoc]
  have b0 : (byteAt (h.bytes ++ inner) 0).toNat = 16 * h.version + h.kind :=
    byteAt_beBytes (a := [])
      (by simp) (by omega) e
  have b1 : (byteAt (h.bytes ++ inner) 1).toNat = h.path :=
    byteAt_beBytes (a := beBytes 1 (16 * h.version + h.kind))
      (by simp) (by omega) (by rw [e])
  have b2 : (byteAt (h.bytes ++ inner) 2).toNat = h.cls :=
    byteAt_beBytes (a := beBytes 1 (16 * h.version + h.kind) ++ beBytes 1 h.path)
      (by simp) (by omega) (by rw [e]; simp only [List.append_assoc]; rfl)
  have b3 : (byteAt (h.bytes ++ inner) 3).toNat = h.part :=
    byteAt_beBytes (a := beBytes 1 (16 * h.version + h.kind) ++ beBytes 1 h.path ++ beBytes 1 h.cls)
      (by simp) (by omega) (by rw [e]; simp only [List.append_assoc]; rfl)
  have b4 : beAt (h.bytes ++ inner) 4 4 = h.sequence.toNat :=
    beAt_append (a := beBytes 1 (16 * h.version + h.kind) ++ beBytes 1 h.path ++ beBytes 1 h.cls ++ beBytes 1 h.part)
      (by simp) (by omega) (by rw [e]; simp only [List.append_assoc]; rfl)
  have b8 : beAt (h.bytes ++ inner) 8 4 = h.siteId.toNat :=
    beAt_append (a := beBytes 1 (16 * h.version + h.kind) ++ beBytes 1 h.path ++ beBytes 1 h.cls ++ beBytes 1 h.part ++ beBytes 4 h.sequence.toNat)
      (by simp) (by omega) (by rw [e]; simp only [List.append_assoc]; rfl)
  have b12 : beAt (h.bytes ++ inner) 12 2 = h.probeSeq.toNat :=
    beAt_append (a := beBytes 1 (16 * h.version + h.kind) ++ beBytes 1 h.path ++ beBytes 1 h.cls ++ beBytes 1 h.part ++ beBytes 4 h.sequence.toNat ++ beBytes 4 h.siteId.toNat)
      (by simp) (by omega) (by rw [e]; simp only [List.append_assoc]; rfl)
  have b14 : beAt (h.bytes ++ inner) 14 2 = h.nonce.toNat :=
    beAt_append (a := beBytes 1 (16 * h.version + h.kind) ++ beBytes 1 h.path ++ beBytes 1 h.cls ++ beBytes 1 h.part ++ beBytes 4 h.sequence.toNat ++ beBytes 4 h.siteId.toNat ++ beBytes 2 h.probeSeq.toNat)
      (by simp) (by omega) (by rw [e]; simp only [List.append_assoc]; rfl)
  obtain ⟨version, kind, path, cls, part, sequence, siteId, probeSeq, nonce⟩ := h
  simp only at *
  simp only [readCarryHeader, b0, b1, b2, b3, b4, b8, b12, b14, BitVec.ofNat_toNat, BitVec.setWidth_eq, CarryHeader.mk.injEq, and_true]
  omega

/-! ## The checks of R12 and R17 -/

/-- The UDP datagram that an IP datagram holds, by the tests of its IP header. -/
theorem udpInside_eq_some {v : IpVersion} {ip udp : List Byte} : udpInside v ip = some udp ↔
    ipVersionField ip = versionCode v ∧ (v = .v4 → ipv4MoreFragments ip = false ∧ ipv4FragmentOffset ip = 0) ∧
      ((v = .v4 → 20 ≤ ipHeaderLength v ip) ∧ ipHeaderLength v ip ≤ ip.length) ∧ ipProtocol v ip = 17 ∧ udpOf v ip = udp := by
  have h (b : Byte) : b = 17 ↔ b.toNat = 17 := ⟨fun h => by subst h; rfl, fun h => BitVec.eq_of_toNat_eq h⟩
  cases v <;>
    simp only [udpInside, udpOf, versionCode, ipHeaderLength, ipProtocol, h, protocolUdp, headerFragment, Option.ite_none_right_eq_some, Option.some.injEq,
      Bool.and_eq_true, decide_eq_true_eq, Bool.not_eq_true', ne_eq, reduceCtorEq, false_implies, true_and, forall_const] <;>
    grind

/-- The payload of a UDP datagram, by its length field. -/
theorem udpPayload_eq_some {udp p : List Byte} :
    udpPayload udp = some p ↔ (24 ≤ beAt udp 4 2 ∧ beAt udp 4 2 ≤ udp.length) ∧ p = (udp.take (beAt udp 4 2)).drop 8 := by
  simp only [udpPayload, carryHeaderLength, Option.ite_none_right_eq_some, Option.some.injEq, Bool.and_eq_true, decide_eq_true_eq]
  grind

/-- What R17 hands on is the carry payload of a datagram of the record. -/
theorem fibreCarryPayload_eq_some {c : AddressRecord} {body p : List Byte} :
    fibreCarryPayload c body = some p ↔ ∃ v, etherVersion body = some v ∧ Carries c v (etherPayload body) p := by
  unfold fibreCarryPayload
  cases etherVersion body with
  | none => simp
  | some v =>
    simp only [Option.some.injEq, exists_eq_left', Bool.and_eq_true, decide_eq_true_eq]
    constructor
    · intro h
      split at h
      · rename_i a
        cases hu : udpInside v (etherPayload body) with
        | none => simp [hu] at h
        | some udp =>
          obtain ⟨f, w, l, q, rfl⟩ := udpInside_eq_some.1 hu
          simp only [hu, Option.ite_none_right_eq_some] at h
          obtain ⟨n, e⟩ := udpPayload_eq_some.1 h.2
          exact ⟨a.1.symm, a.2, f, w, l, q, h.1, n, e⟩
      · simp at h
    · rintro ⟨a, d, f, w, l, q, t, n, e⟩
      rw [if_pos ⟨a.symm, d⟩, udpInside_eq_some.2 ⟨f, w, l, q, rfl⟩]
      simp only [t, if_true]
      exact udpPayload_eq_some.2 ⟨n, e⟩

/-- What passes the checks of R12 is the carry payload of a datagram of the record with right checksums. -/
theorem carryPayload_eq_some {c : AddressRecord} {v : IpVersion} {ip p : List Byte} :
    carryPayload c v ip = some p ↔ Carries c v ip p ∧ Checksummed v ip p := by
  have four (h : 20 ≤ ipv4HeaderLength ip) : ipv4ChecksumOk ip = true ↔
      beAt ip 10 2 = checksum (slice ip 0 10 ++ [0, 0] ++ (ip.take (ipv4HeaderLength ip)).drop 12) := by
    simp only [ipv4ChecksumOk, decide_eq_true_eq, slice, List.drop_zero, List.take_take, Nat.min_eq_left (Nat.le_trans (by decide : 10 ≤ 20) h)]
  have sum (udp : List Byte) : udpChecksumOk v (ipSource v ip) (ipDest v ip) udp p = true ↔ (beAt udp 6 2 = 0 → v = .v4) ∧
      (beAt udp 6 2 ≠ 0 → beAt udp 6 2 = udpChecksum v (ipSource v ip) (ipDest v ip) (beAt udp 0 2) (beAt udp 2 2) p) := by
    unfold udpChecksumOk
    simp only
    split <;> simp_all
  unfold carryPayload
  constructor
  · intro h
    split at h
    · rename_i a
      simp only [Bool.and_eq_true, decide_eq_true_eq, Bool.or_eq_true] at a
      cases hu : udpInside v ip with
      | none => simp [hu] at h
      | some udp =>
        obtain ⟨f, w, l, q, rfl⟩ := udpInside_eq_some.1 hu
        simp only [hu, Option.ite_none_right_eq_some] at h
        cases hp : udpPayload (udpOf v ip) with
        | none => simp [hp] at h
        | some x =>
          simp only [hp, Option.ite_none_right_eq_some, Option.some.injEq] at h
          obtain ⟨t, z, rfl⟩ := h
          obtain ⟨n, e⟩ := udpPayload_eq_some.1 hp
          refine ⟨⟨a.1.1.symm, a.1.2, f, w, l, q, t, n, e⟩, fun hv => ?_, ((sum _).1 z).1, ((sum _).1 z).2⟩
          subst hv
          exact (four (l.1 rfl)).1 (by simpa using a.2)
    · simp at h
  · rintro ⟨⟨a, d, f, w, l, q, t, n, e⟩, k, z, y⟩
    have hc : (v = IpVersion.v6 || ipv4ChecksumOk ip) = true := by
      cases v with
      | v4 => simpa using (four (l.1 rfl)).2 (k rfl)
      | v6 => rfl
    rw [if_pos (by simp [a, d, hc]), udpInside_eq_some.2 ⟨f, w, l, q, rfl⟩]
    simp only [t, if_true, udpPayload_eq_some.2 ⟨n, e⟩, (sum _).2 ⟨z, y⟩]

end Sys2Proof.Machine
end

