-- ==== Sys2Proof/Laws/Deliveries.lean ====
section
/-! SUPPORT. What notices and deliveries change: one lemma for each operation, for commands none of whose accesses fails and for parts
none of whose radios is draining. -/

namespace Sys2Proof.Machine

/-! ## Notices -/

/-- No access of the command fails, and host memory is in its canonical form. -/
def State.calm (s : State) : Prop := s.access = none ∧ memoryWf s.memory = true

/-- From a calm state to a calm state, changing no more than notices do. -/
def Mild (s t : State) : Prop := s.calm → t.calm ∧ NoticesOnly s t

namespace NoticesOnly

theorem refl (s : State) : NoticesOnly s s := ⟨rfl, rfl, rfl, fun _ h => h, rfl, fun _ _ => rfl⟩

theorem trans {s t u : State} (h : NoticesOnly s t) (k : NoticesOnly t u) : NoticesOnly s u where
  control := k.control.trans h.control
  areaLow := k.areaLow.trans h.areaLow
  areaHigh := k.areaHigh.trans h.areaHigh
  cause := fun i hi => k.cause i (h.cause i hi)
  exchange := by
    have := k.exchange
    rw [h.exchange] at this
    rw [this]
  bytes := fun a ha => by
    have hb : t.regs.areaBase = s.regs.areaBase := by simp only [Registers.areaBase, h.areaLow, h.areaHigh]
    rw [k.bytes a (by rw [hb]; exact ha), h.bytes a ha]

end NoticesOnly

namespace Mild

theorem refl (s : State) : Mild s s := fun h => ⟨h, .refl s⟩

theorem trans {s t u : State} (h : Mild s t) (k : Mild t u) : Mild s u := fun hc =>
  ⟨(k (h hc).1).1, (h hc).2.trans (k (h hc).1).2⟩

/-- An update of anything but the registers, the exchange, host memory and the command's access. -/
theorem of_same {s t : State} (hg : t.regs = s.regs) (hx : t.exchange = s.exchange) (hm : t.memory = s.memory) (ha : t.access = s.access) :
    Mild s t := fun h =>
  ⟨⟨ha.trans h.1, by rw [hm]; exact h.2⟩, by rw [hg], by rw [hg], by rw [hg], fun i hi => by rw [hg]; exact hi, by rw [hx],
    fun a _ => by rw [hm]⟩

end Mild

variable (s : State)

theorem State.writeAccess_mild (n : Nat) (l : List Byte) (h : n + l.length ≤ 8 ∨ (0x1100 ≤ n ∧ n + l.length ≤ 0x2100)) :
    Mild s (s.writeAccess (s.area n) l) := by
  intro hc
  by_cases hr : s.running = true
  · rw [State.writeAccess_clean hr hc.1]
    refine ⟨⟨hc.1, writeBytes_wf _ hc.2⟩, rfl, rfl, rfl, fun _ h => h, rfl, fun a ha => readByte_writeBytes_other _ hc.2 ?_⟩
    intro hn
    refine ha ?_
    obtain ⟨j, hj, he⟩ := hn
    rcases h with h | h
    · exact .inl ⟨n + j, by omega, by rw [he]; simp only [State.area]; congr 1; omega⟩
    · exact .inr ⟨n - 0x1100 + j, by omega, by rw [he]; simp only [State.area]; congr 1; omega⟩
  · unfold State.writeAccess
    rw [if_neg hr]
    exact Mild.refl s hc

theorem State.writeStateWord_mild : Mild s s.writeStateWord := s.writeAccess_mild 0 _ (.inl (by simp [leBytes_length]))

theorem Notice.bytes_length (n : Notice) (now : Word) : (n.bytes now).length = 28 := by
  simp [Notice.bytes, leBytes_length]

theorem State.recordNotice_mild (n : Notice) : Mild s (s.recordNotice n) := by
  unfold State.recordNotice
  dsimp only
  have h1 := s.writeAccess_mild (noticeOffset (s.exchange.writeCount.toNat % 128)) (n.bytes s.now) (.inr (by
    rw [Notice.bytes_length]; unfold noticeOffset; omega))
  have h2 := h1.trans (State.writeAccess_mild _ 4 (leBytes 2 (s.exchange.writeCount + 1).toNat) (.inl (by simp [leBytes_length])))
  split
  · refine h2.trans (fun h => ⟨h, rfl, rfl, rfl, fun i hi => ?_, rfl, fun _ _ => rfl⟩)
    show (_ ||| causeNotice).getLsbD i = true
    rw [BitVec.getLsbD_or, hi, Bool.true_or]
  · exact h2

theorem State.loseNotice_mild : Mild s s.loseNotice := by
  unfold State.loseNotice
  dsimp only
  refine Mild.trans (t := { s with exchange := { s.exchange with lostCount := bump s.exchange.lostCount }, regs := s.regs.setCause causeLost })
    (fun h => ⟨h, rfl, rfl, rfl, fun i hi => ?_, rfl, fun _ _ => rfl⟩) (State.writeAccess_mild _ 6 _ (.inl (by simp [leBytes_length])))
  show (_ ||| causeLost).getLsbD i = true
  rw [BitVec.getLsbD_or, hi, Bool.true_or]

theorem State.raise_mild (n : Notice) : Mild s (s.raise n) := by
  intro hc
  unfold State.raise
  split
  · dsimp only
    rw [State.readAccess_clean hc.1]
    rw [if_pos ‹_›]
    split
    · exact s.recordNotice_mild n hc
    · exact s.loseNotice_mild hc
  · exact Mild.refl s hc

theorem State.setRadio_mild (r : Radio) (x : RadioUnit) : Mild s (s.setRadio r x) := .of_same rfl rfl rfl rfl
theorem State.setJudge_mild (u : Uplink) (x : Judgement) : Mild s (s.setJudge u x) := .of_same rfl rfl rfl rfl
theorem State.setProber_mild (u : Uplink) (x : Prober) : Mild s (s.setProber u x) := .of_same rfl rfl rfl rfl
theorem State.setFramer_mild (r : Radio) (x : RadioFramer) : Mild s (s.setFramer r x) := .of_same rfl rfl rfl rfl
theorem State.setMeter_mild (r : Radio) (x : Meter) : Mild s (s.setMeter r x) := .of_same rfl rfl rfl rfl
theorem State.setSelector_mild (x : Selector) : Mild s (s.setSelector x) := .of_same rfl rfl rfl rfl
theorem State.setFlows_mild (x : FlowTable) : Mild s (s.setFlows x) := .of_same rfl rfl rfl rfl
theorem State.setConditions_mild (x : Conditions) : Mild s (s.setConditions x) := .of_same rfl rfl rfl rfl
theorem State.emit_mild (d : Delivery) : Mild s (s.emit d) := .of_same rfl rfl rfl rfl
theorem State.walkTrigger_mild (k : TriggerKind) : Mild s (s.walkTrigger k) := .of_same rfl rfl rfl rfl
theorem State.deliveries_mild (l : List Delivery) : Mild s { s with deliveries := l } := .of_same rfl rfl rfl rfl

/-! ## The operations that deliveries reach -/

theorem State.refreshUsable_mild (u : Uplink) : Mild s (s.refreshUsable u) := by
  unfold State.refreshUsable
  dsimp only
  split
  · exact .refl s
  · exact ((s.setJudge_mild u _).trans (State.walkTrigger_mild _ _)).trans (State.emit_mild _ _)

theorem State.raiseRadioState_mild (r : Radio) (old : RadioState) (c : RadioCause) : Mild s (s.raiseRadioState r old c) := s.raise_mild _

theorem State.raiseSuppression_mild (u : Uplink) (c : Nat) : Mild s (s.raiseSuppression u c) := s.raise_mild _

theorem State.changeVerdict_mild (u : Uplink) (v : Verdict) (c : VerdictCause) (p : Bool) : Mild s (s.changeVerdict u v c p) := by
  unfold State.changeVerdict
  dsimp only
  split
  · exact .refl s
  · have h := ((s.setJudge_mild u ((s.judge u).withVerdict v p (s.cfg.judges.get u).suppress (s.after 1000))).trans
      (State.refreshUsable_mild _ u))
    split
    · exact (h.trans (State.raise_mild _ _)).trans (State.emit_mild _ _)
    · exact (((h.trans (State.raise_mild _ _)).trans (State.raiseSuppression_mild _ _ _)).trans
        (State.emit_mild _ _)).trans (State.emit_mild _ _)

theorem State.clearJudge_mild (u : Uplink) : Mild s (s.clearJudge u) := s.setJudge_mild _ _

theorem State.resetJudgement_mild (r : Radio) (c : VerdictCause) : Mild s (s.resetJudgement r c) :=
  ((s.changeVerdict_mild _ _ _ _).trans (State.clearJudge_mild _ _)).trans (State.refreshUsable_mild _ _)

theorem State.failUplink_mild (u : Uplink) (c : VerdictCause) : Mild s (s.failUplink u c) := by
  unfold State.failUplink
  split
  · exact (s.clearJudge_mild u).trans (State.refreshUsable_mild _ _)
  · exact (s.changeVerdict_mild _ _ _ _).trans (State.refreshUsable_mild _ _)

theorem State.startWarm_mild (r : Radio) (c : RadioCause) : Mild s (s.startWarm r c) :=
  (((s.setRadio_mild _ _).trans (State.raiseRadioState_mild _ _ _ _)).trans (State.refreshUsable_mild _ _)).trans
    (State.emit_mild _ _)

theorem State.askWarm_mild (r : Radio) (c : RadioCause) : Mild s (s.askWarm r c) := by
  unfold State.askWarm
  split
  · exact s.startWarm_mild r c
  · exact .refl s

theorem State.changeReady_mild (r : Radio) (x : RadioState) : Mild s (s.changeReady r x) :=
  ((s.setRadio_mild _ _).trans (State.raiseRadioState_mild _ _ _ _)).trans (State.emit_mild _ _)

/-- The test of R44 finds nothing to do on a radio that is not draining. -/
theorem State.retest_undrained {r : Radio} (h : (s.radio r).draining = false) :
    s.retest r = if (s.radio r).state.ready && s.readyState r != (s.radio r).state then s.changeReady r (s.readyState r) else s := by
  unfold State.retest
  simp only [h, Bool.and_false, Bool.false_and, Bool.false_eq_true, if_false]

theorem State.retest_mild {r : Radio} (h : (s.radio r).draining = false) : Mild s (s.retest r) := by
  rw [s.retest_undrained h]
  split
  · exact s.changeReady_mild _ _
  · exact .refl s

theorem State.setStranded_mild (b : Bool) : Mild s (s.setStranded b) :=
  ((s.setSelector_mild _).trans (State.writeStateWord_mild _)).trans (State.raise_mild _ _)

theorem State.changeCarrier_mild (u : Uplink) (c : CarrierReason) : Mild s (s.changeCarrier u c) := by
  unfold State.changeCarrier
  dsimp only
  refine Mild.trans ?_ (State.walkTrigger_mild _ _)
  refine Mild.trans ?_ (State.emit_mild _ _)
  split
  · exact (((s.setSelector_mild _).trans (State.writeStateWord_mild _)).trans (State.raise_mild _ _)).trans
      (State.setStranded_mild _ _)
  · exact ((s.setSelector_mild _).trans (State.writeStateWord_mild _)).trans (State.raise_mild _ _)

theorem State.fromFibre_mild : Mild s s.fromFibre := by
  unfold State.fromFibre
  split
  · exact .refl s
  · split
    · exact s.changeCarrier_mild _ _
    · exact .refl s

theorem State.switchTest_mild (x : Radio) (b : Bool) : Mild s (s.switchTest x b) := by
  unfold State.switchTest
  split
  · split
    · split
      · exact s.changeCarrier_mild _ _
      · exact s.setSelector_mild _
    · exact .refl s
  · exact s.setSelector_mild _

theorem State.fromRadio_mild (x : Radio) (b : Bool) : Mild s (s.fromRadio x b) := by
  unfold State.fromRadio
  split
  · exact s.changeCarrier_mild _ _
  · split
    · exact s.switchTest_mild _ _
    · split
      · exact s.changeCarrier_mild _ _
      · split
        · exact s.changeCarrier_mild _ _
        · exact .refl s

theorem State.carrierProcedure_mild (b : Bool) : Mild s (s.carrierProcedure b) := by
  unfold State.carrierProcedure
  split
  · exact .refl s
  · split
    · exact s.fromFibre_mild
    · exact s.fromRadio_mild _ _

theorem State.testStranded_mild : Mild s s.testStranded := by
  unfold State.testStranded
  split
  · exact .refl s
  · exact s.setStranded_mild _

theorem State.emitAll_mild (l : List Radio) : ∀ s : State, Mild s (l.foldl (fun t r => t.emit (.autoWarm r)) s) := by
  induction l with
  | nil => exact fun s => .refl s
  | cons r t ih => exact fun s => (s.emit_mild _).trans (ih _)

theorem State.evaluate_mild (b : Bool) : Mild s (s.evaluate b) :=
  ((s.carrierProcedure_mild b).trans (State.testStranded_mild _)).trans (State.emitAll_mild _ _)

theorem State.usabilityAtSelector_mild (u : Uplink) (b : Bool) : Mild s (s.usabilityAtSelector u b) := by
  unfold State.usabilityAtSelector
  split
  · exact (s.setSelector_mild _).trans (State.evaluate_mild _ _)
  · exact s.evaluate_mild _
  · exact s.evaluate_mild _

/-! ## The blocks, while no radio is draining -/

/-- From a part none of whose radios is draining to another, changing no more than deliveries do. -/
def Gentle (s t : State) : Prop := s.undrained → Modest s t

namespace Modest

theorem refl {s : State} (h : s.undrained) : Modest s s :=
  ⟨rfl, fun _ => rfl, rfl, fun _ k => k, rfl, h, fun _ _ => rfl, fun _ k => ⟨k, rfl⟩, fun _ _ => .inl rfl⟩

theorem trans {s t u : State} (h : Modest s t) (k : Modest t u) : Modest s u where
  probers := k.probers.trans h.probers
  judges := fun v => by
    have := k.judges v
    rw [h.judges v] at this
    rw [this]
  fibre := k.fibre.trans h.fibre
  usable := fun u hu => h.usable u (k.usable u hu)
  selector := by
    have := k.selector
    rw [h.selector] at this
    rw [this]
  drains := k.drains
  warming := fun r hr => by rw [k.warming r (by rw [h.warming r hr]; exact hr), h.warming r hr]
  ready := fun r hr => by
    obtain ⟨h1, h2⟩ := h.ready r hr
    obtain ⟨k1, k2⟩ := k.ready r h1
    refine ⟨k1, ?_⟩
    rw [h2] at k2
    rw [k2]
  off := fun r hr => by
    rcases h.off r hr with e | ⟨e, f⟩
    · rcases k.off r (by rw [e]; exact hr) with e' | ⟨e', f'⟩
      · exact .inl (e'.trans e)
      · exact .inr ⟨e', by rw [← e]; exact f'⟩
    · exact .inr ⟨by rw [k.warming r e]; exact e, f⟩

end Modest

namespace Gentle

theorem refl (s : State) : Gentle s s := fun h => .refl h

theorem trans {s t u : State} (h : Gentle s t) (k : Gentle t u) : Gentle s u := fun hd => (h hd).trans (k (h hd).drains)

/-- An update of anything but the blocks of `Modest`. -/
theorem of_same {s t : State} (hp : t.probers = s.probers) (hj : t.judges = s.judges) (hl : t.selector = s.selector)
    (hr : t.radios = s.radios) : Gentle s t := fun h => by
  have e : ∀ r, t.radio r = s.radio r := fun r => by simp only [State.radio, hr]
  have ej : ∀ u, t.judge u = s.judge u := fun u => by simp only [State.judge, hj]
  exact ⟨hp, fun u => by rw [ej], by rw [hj], fun u k => by rw [← k]; simp only [State.usable, ej], by rw [hl], fun r => by rw [e]; exact h r, fun r _ => e r,
    fun r k => ⟨by rw [e]; exact k, by rw [e]⟩, fun r _ => .inl (e r)⟩

end Gentle

variable {s} in
theorem OnlyExchange.gentle {t : State} (h : OnlyExchange s t) : Gentle s t := .of_same h.probers h.judges h.selector h.radios

theorem State.emit_gentle (d : Delivery) : Gentle s (s.emit d) := .of_same rfl rfl rfl rfl
theorem State.walkTrigger_gentle (k : TriggerKind) : Gentle s (s.walkTrigger k) := .of_same rfl rfl rfl rfl
theorem State.deliveries_gentle (l : List Delivery) : Gentle s { s with deliveries := l } := .of_same rfl rfl rfl rfl
theorem State.raise_gentle (n : Notice) : Gentle s (s.raise n) := (s.raise_only n).gentle
theorem State.writeStateWord_gentle : Gentle s s.writeStateWord := s.writeStateWord_only.gentle

/-- The carrier, the sustain counter, the stranded flag and fibre_usable_since take new values. -/
theorem State.setSelector_gentle {x : Selector} (h : x = { s.selector with
    carrier := x.carrier, sustain := x.sustain, stranded := x.stranded, fibreSince := x.fibreSince }) : Gentle s (s.setSelector x) := fun hd =>
  ⟨rfl, fun _ => rfl, rfl, fun _ k => k, h, hd, fun _ _ => rfl, fun _ k => ⟨k, rfl⟩, fun _ _ => .inl rfl⟩

theorem State.setJudge_unusable_gentle (r : Radio) : Gentle s (s.setJudge r.uplink { s.judge r.uplink with usable := false }) := fun hd => by
  refine ⟨rfl, fun u => ?_, ?_, fun u k => ?_, rfl, hd, fun _ _ => rfl, fun _ k => ⟨k, rfl⟩, fun _ _ => .inl rfl⟩
  · by_cases hu : u = r.uplink
    · subst hu
      simp only [State.judge, State.setJudge, PerUplink.get_set]
    · simp only [State.judge, State.setJudge, PerUplink.get_set_ne _ _ hu]
  · cases r <;> rfl
  · by_cases hu : u = r.uplink
    · subst hu
      simp [State.usable, State.judge, State.setJudge, PerUplink.get_set] at k
    · simpa only [State.usable, State.judge, State.setJudge, PerUplink.get_set_ne _ _ hu] using k

/-- A decision of R86 worked out anew on an uplink that cannot be used. -/
theorem State.refreshUnusable_gentle (r : Radio) (h : s.usableTerms r.uplink = false) : Gentle s (s.refreshUsable r.uplink) := by
  unfold State.refreshUsable
  dsimp only
  rw [h]
  split
  · exact .refl s
  · exact ((s.setJudge_unusable_gentle r).trans (State.walkTrigger_gentle _ _)).trans (State.emit_gentle _ _)

theorem State.setStranded_gentle (b : Bool) : Gentle s (s.setStranded b) :=
  ((s.setSelector_gentle rfl).trans (State.writeStateWord_gentle _)).trans (State.raise_gentle _ _)

theorem State.changeCarrier_gentle (u : Uplink) (c : CarrierReason) : Gentle s (s.changeCarrier u c) := by
  unfold State.changeCarrier
  dsimp only
  refine Gentle.trans ?_ (State.walkTrigger_gentle _ _)
  refine Gentle.trans ?_ (State.emit_gentle _ _)
  split
  · exact (((s.setSelector_gentle rfl).trans (State.writeStateWord_gentle _)).trans (State.raise_gentle _ _)).trans
      (State.setStranded_gentle _ _)
  · exact ((s.setSelector_gentle rfl).trans (State.writeStateWord_gentle _)).trans (State.raise_gentle _ _)

theorem State.fromFibre_gentle : Gentle s s.fromFibre := by
  unfold State.fromFibre
  split
  · exact .refl s
  · split
    · exact s.changeCarrier_gentle _ _
    · exact .refl s

theorem State.switchTest_gentle (x : Radio) (b : Bool) : Gentle s (s.switchTest x b) := by
  unfold State.switchTest
  split
  · split
    · split
      · exact s.changeCarrier_gentle _ _
      · exact s.setSelector_gentle rfl
    · exact .refl s
  · exact s.setSelector_gentle rfl

theorem State.fromRadio_gentle (x : Radio) (b : Bool) : Gentle s (s.fromRadio x b) := by
  unfold State.fromRadio
  split
  · exact s.changeCarrier_gentle _ _
  · split
    · exact s.switchTest_gentle _ _
    · split
      · exact s.changeCarrier_gentle _ _
      · split
        · exact s.changeCarrier_gentle _ _
        · exact .refl s

theorem State.carrierProcedure_gentle (b : Bool) : Gentle s (s.carrierProcedure b) := by
  unfold State.carrierProcedure
  split
  · exact .refl s
  · split
    · exact s.fromFibre_gentle
    · exact s.fromRadio_gentle _ _

theorem State.testStranded_gentle : Gentle s s.testStranded := by
  unfold State.testStranded
  split
  · exact .refl s
  · exact s.setStranded_gentle _

theorem State.emitAll_gentle (l : List Radio) : ∀ s : State, Gentle s (l.foldl (fun t r => t.emit (.autoWarm r)) s) := by
  induction l with
  | nil => exact fun s => .refl s
  | cons r t ih => exact fun s => (s.emit_gentle _).trans (ih _)

theorem State.evaluate_gentle (b : Bool) : Gentle s (s.evaluate b) :=
  ((s.carrierProcedure_gentle b).trans (State.testStranded_gentle _)).trans (State.emitAll_gentle _ _)

theorem State.usabilityAtSelector_gentle (u : Uplink) (b : Bool) : Gentle s (s.usabilityAtSelector u b) := by
  unfold State.usabilityAtSelector
  split
  · exact (s.setSelector_gentle rfl).trans (State.evaluate_gentle _ _)
  · exact s.evaluate_gentle _
  · exact s.evaluate_gentle _

theorem State.radio_setRadio_same (r : Radio) (x : RadioUnit) : (s.setRadio r x).radio r = x := by
  simp only [State.radio, State.setRadio, PerRadio.get_set]

theorem State.radio_setRadio_other {r q : Radio} (x : RadioUnit) (h : q ≠ r) : (s.setRadio r x).radio q = s.radio q := by
  simp only [State.radio, State.setRadio, PerRadio.get_set_ne _ _ h]

theorem State.raiseRadioState_radio (r q : Radio) (old : RadioState) (c : RadioCause) : (s.raiseRadioState r old c).radio q = s.radio q := by
  simp only [State.radio, (s.raiseRadioState_only r old c).radios]

/-- A radio that is not ready is not usable (R86). -/
theorem State.usableTerms_unready {r : Radio} (h : (s.radio r).state.ready = false) : s.usableTerms r.uplink = false := by
  unfold State.usableTerms
  simp only [Radio.uplink_radio, h, Bool.false_and]

theorem State.askWarm_gentle (r : Radio) (c : RadioCause) : Gentle s (s.askWarm r c) := by
  unfold State.askWarm
  split
  · rename_i hw
    simp only [Bool.and_eq_true, decide_eq_true_eq, Option.isNone_iff_eq_none] at hw
    unfold State.startWarm
    refine Gentle.trans (Gentle.trans (Gentle.trans ?_ (State.raiseRadioState_only _ _ _ _).gentle)
      (State.refreshUnusable_gentle _ _ ?_)) (State.emit_gentle _ _)
    rotate_left

    · refine State.usableTerms_unready _ ?_
      rw [State.raiseRadioState_radio, State.radio_setRadio_same]
      rfl
    intro hd
    refine ⟨rfl, fun _ => rfl, rfl, fun _ k => k, rfl, fun q => ?_, fun q hq => ?_, fun q hq => ?_, fun q hq => ?_⟩
    · by_cases h : q = r
      · subst h; rw [State.radio_setRadio_same]
      · rw [State.radio_setRadio_other _ _ h]; exact hd q
    · by_cases h : q = r
      · subst h; rw [hw.1.1] at hq; cases hq
      · exact State.radio_setRadio_other _ _ h
    · by_cases h : q = r
      · subst h; rw [hw.1.1] at hq; cases hq
      · rw [State.radio_setRadio_other _ _ h]; exact ⟨hq, rfl⟩
    · by_cases h : q = r
      · subst h; rw [State.radio_setRadio_same]; exact .inr ⟨rfl, hw.1.2⟩
      · exact .inl (State.radio_setRadio_other _ _ h)
  · exact .refl s

theorem State.readyState_ready (r : Radio) : (s.readyState r).ready = true := by
  unfold State.readyState
  split <;> rfl

theorem State.retest_gentle (r : Radio) : Gentle s (s.retest r) := by
  intro hd
  rw [s.retest_undrained (hd r)]
  split
  · rename_i hw
    simp only [Bool.and_eq_true] at hw
    refine Gentle.trans (t := s.setRadio r { s.radio r with state := s.readyState r, coolHold := s.coolHoldIn r (s.readyState r) })
      (fun hd => ?_) ((State.raiseRadioState_only _ _ _ _).gentle.trans (State.emit_gentle _ _)) hd
    refine ⟨rfl, fun _ => rfl, rfl, fun _ k => k, rfl, fun q => ?_, fun q hq => ?_, fun q hq => ?_, fun q hq => ?_⟩
    · by_cases h : q = r
      · subst h; rw [State.radio_setRadio_same]; exact hd q
      · rw [State.radio_setRadio_other _ _ h]; exact hd q
    · by_cases h : q = r
      · subst h; rw [hq] at hw; exact absurd hw.1 (by decide)
      · exact State.radio_setRadio_other _ _ h
    · by_cases h : q = r
      · subst h; rw [State.radio_setRadio_same]; exact ⟨s.readyState_ready q, rfl⟩
      · rw [State.radio_setRadio_other _ _ h]; exact ⟨hq, rfl⟩
    · by_cases h : q = r
      · subst h; rw [hq] at hw; exact absurd hw.1 (by decide)
      · exact .inl (State.radio_setRadio_other _ _ h)
  · exact .refl hd

/-! ## Deliveries and settling -/

theorem State.deliver_gentle (d : Delivery) : Gentle s (s.deliver d) := by
  cases d with
  | evaluate => exact s.evaluate_gentle _
  | usability u b => exact s.usabilityAtSelector_gentle _ _
  | carrierMoved => exact (s.retest_gentle _).trans (State.retest_gentle _ _)
  | countCrossed r => exact s.retest_gentle _
  | autoWarm r => exact s.askWarm_gentle _ _

theorem State.deliver_mild (h : s.undrained) (d : Delivery) : Mild s (s.deliver d) := by
  cases d with
  | evaluate => exact s.evaluate_mild _
  | usability u b => exact s.usabilityAtSelector_mild _ _
  | carrierMoved => exact (s.retest_mild (h _)).trans (State.retest_mild _ ((s.retest_gentle _ h).drains _))
  | countCrossed r => exact s.retest_mild (h _)
  | autoWarm r => exact s.askWarm_mild _ _

/-- While no radio drains, the deliveries of a command change no more than `Modest` says. -/
theorem State.settle_gentle (n : Nat) (s : State) : Gentle s (State.settle n s) := fun hd => by
  refine State.settle_keeps (P := fun t => Modest s t) ?_ ?_ n s (.refl hd)
  · exact fun t ds h => h.trans (t.deliveries_gentle ds h.drains)
  · exact fun t d h => h.trans (t.deliver_gentle d h.drains)

/-- While no radio drains and no access fails, the deliveries of a command change no more than notices do. -/
theorem State.settle_mild (n : Nat) {s : State} (hd : s.undrained) : Mild s (State.settle n s) := by
  refine (State.settle_keeps (P := fun t => t.undrained ∧ Mild s t) ?_ ?_ n s ⟨hd, .refl s⟩).2
  · exact fun t ds h => ⟨(t.deliveries_gentle ds h.1).drains, h.2.trans (t.deliveries_mild ds)⟩
  · exact fun t d h => ⟨(t.deliver_gentle d h.1).drains, h.2.trans (t.deliver_mild h.1 d)⟩

/-! ## What deliveries never change, whatever drains -/

/-- What no delivery changes in the Prober, the Judge and the Selector. -/
structure Lasting (s t : State) : Prop where
  timer     : ∀ u, (t.prober u).timer = (s.prober u).timer
  sequence  : ∀ u, (t.prober u).sequence = (s.prober u).sequence
  counters  : ∀ u, (t.prober u).counters = (s.prober u).counters
  penalty   : ∀ u, (t.judge u).penalty = (s.judge u).penalty
  decay     : ∀ u, (t.judge u).decayTimer = (s.judge u).decayTimer
  suppress  : ∀ u, (t.judge u).suppressed = (s.judge u).suppressed
  fibre     : t.judges.fibre = s.judges.fibre
  fibreList : t.probers.fibre = s.probers.fibre
  selector  : t.selector = { s.selector with
    carrier := t.selector.carrier, sustain := t.selector.sustain, stranded := t.selector.stranded, fibreSince := t.selector.fibreSince }

namespace Lasting

theorem refl (s : State) : Lasting s s := by constructor <;> intros <;> rfl

theorem trans {s t u : State} (h : Lasting s t) (k : Lasting t u) : Lasting s u where
  timer := fun v => (k.timer v).trans (h.timer v)
  sequence := fun v => (k.sequence v).trans (h.sequence v)
  counters := fun v => (k.counters v).trans (h.counters v)
  penalty := fun v => (k.penalty v).trans (h.penalty v)
  decay := fun v => (k.decay v).trans (h.decay v)
  suppress := fun v => (k.suppress v).trans (h.suppress v)
  fibre := k.fibre.trans h.fibre
  fibreList := k.fibreList.trans h.fibreList
  selector := by
    have := k.selector
    rw [h.selector] at this
    rw [this]

theorem of_same {s t : State} (hp : t.probers = s.probers) (hj : t.judges = s.judges) (hl : t.selector = s.selector) : Lasting s t := by
  constructor <;> intros <;> simp only [State.prober, State.judge, hp, hj, hl]

end Lasting

variable {s} in
theorem OnlyExchange.lasting {t : State} (h : OnlyExchange s t) : Lasting s t := .of_same h.probers h.judges h.selector

theorem State.setSelector_lasting {x : Selector} (h : x = { s.selector with
    carrier := x.carrier, sustain := x.sustain, stranded := x.stranded, fibreSince := x.fibreSince }) : Lasting s (s.setSelector x) := by
  refine ⟨fun _ => rfl, fun _ => rfl, fun _ => rfl, fun _ => rfl, fun _ => rfl, fun _ => rfl, rfl, rfl, h⟩

/-- A radio's judgement takes another verdict, an empty window or another decision. -/
theorem State.setJudge_lasting (r : Radio) {x : Judgement} (hp : x.penalty = (s.judge r.uplink).penalty)
    (hd : x.decayTimer = (s.judge r.uplink).decayTimer) (hs : x.suppressed = (s.judge r.uplink).suppressed) :
    Lasting s (s.setJudge r.uplink x) := by
  have e : ∀ u, (s.setJudge r.uplink x).judge u = if u = r.uplink then x else s.judge u := by
    intro u
    by_cases hu : u = r.uplink
    · subst hu; simp [State.judge, State.setJudge]
    · simp [State.judge, State.setJudge, PerUplink.get_set_ne _ _ hu, hu]
  refine ⟨fun _ => rfl, fun _ => rfl, fun _ => rfl, fun u => ?_, fun u => ?_, fun u => ?_, by cases r <;> rfl, rfl, rfl⟩
  · rw [e]; split
    · rename_i h; rw [h, hp]
    · rfl
  · rw [e]; split
    · rename_i h; rw [h, hd]
    · rfl
  · rw [e]; split
    · rename_i h; rw [h, hs]
    · rfl

/-- A radio's outstanding list and burst take other values. -/
theorem State.setProber_lasting (r : Radio) (l : List Outstanding) (b : Option Burst) :
    Lasting s (s.setProber r.uplink { s.prober r.uplink with outstanding := l, burst := b }) := by
  have e : ∀ u, (s.setProber r.uplink { s.prober r.uplink with outstanding := l, burst := b }).prober u =
      if u = r.uplink then { s.prober r.uplink with outstanding := l, burst := b } else s.prober u := by
    intro u
    by_cases hu : u = r.uplink
    · subst hu; simp [State.prober, State.setProber]
    · simp [State.prober, State.setProber, PerUplink.get_set_ne _ _ hu, hu]
  refine ⟨fun u => ?_, fun u => ?_, fun u => ?_, fun _ => rfl, fun _ => rfl, fun _ => rfl, rfl, by cases r <;> rfl, rfl⟩ <;>
  · rw [e]; split
    · rename_i h; rw [h]
    · rfl

theorem State.emit_lasting (d : Delivery) : Lasting s (s.emit d) := .of_same rfl rfl rfl
theorem State.walkTrigger_lasting (k : TriggerKind) : Lasting s (s.walkTrigger k) := .of_same rfl rfl rfl
theorem State.setRadio_lasting (r : Radio) (x : RadioUnit) : Lasting s (s.setRadio r x) := .of_same rfl rfl rfl
theorem State.raise_lasting (n : Notice) : Lasting s (s.raise n) := (s.raise_only n).lasting

theorem State.refreshUsable_lasting (r : Radio) : Lasting s (s.refreshUsable r.uplink) := by
  unfold State.refreshUsable
  dsimp only
  split
  · exact .refl s
  · refine Lasting.trans (Lasting.trans (State.setJudge_lasting s r ?_ ?_ ?_) (State.walkTrigger_lasting _ _))
      (State.emit_lasting _ _) <;> rfl

/-- A verdict change that is no failure leaves penalty and suppression alone. -/
theorem State.changeVerdict_lasting (r : Radio) {v : Verdict} (hv : v ≠ .failed) (c : VerdictCause) (p : Bool) :
    Lasting s (s.changeVerdict r.uplink v c p) := by
  have hw : (s.judge r.uplink).withVerdict v p (s.cfg.judges.get r.uplink).suppress (s.after 1000) =
      { s.judge r.uplink with verdict := v } := by
    unfold Judgement.withVerdict
    rw [if_neg hv]
  unfold State.changeVerdict
  dsimp only
  split
  · exact .refl s
  · rw [hw, if_pos rfl]
    refine Lasting.trans (Lasting.trans (Lasting.trans (State.setJudge_lasting s r ?_ ?_ ?_) (State.refreshUsable_lasting _ _))
      (State.raise_lasting _ _)) (State.emit_lasting _ _) <;> rfl

theorem State.resetJudgement_lasting (r : Radio) (c : VerdictCause) : Lasting s (s.resetJudgement r c) := by
  refine Lasting.trans (Lasting.trans (s.changeVerdict_lasting r (v := .unknown) (by decide) c false) ?_) (State.refreshUsable_lasting _ r)
  refine State.setJudge_lasting _ r ?_ ?_ ?_ <;> rfl

theorem State.finishBurst_lasting (r : Radio) (b : Burst) (o : RequestOutcome) : Lasting s (s.finishBurst r.uplink b o) :=
  (s.setProber_lasting r (s.prober r.uplink).outstanding none).trans (State.endTimed_only _ _ _ _).lasting

theorem State.emptyOutstanding_lasting (r : Radio) : Lasting s (s.emptyOutstanding r.uplink) := by
  unfold State.emptyOutstanding
  dsimp only
  have h := s.setProber_lasting r [] (s.prober r.uplink).burst
  split
  · exact h
  · exact h.trans (State.finishBurst_lasting _ _ _ _)

theorem State.enterOff_lasting (r : Radio) (c : RadioCause) : Lasting s (s.enterOff r c) := by
  unfold State.enterOff
  dsimp only
  refine Lasting.trans ?_ (State.emit_lasting _ _)
  split
  · exact (((s.setRadio_lasting _ _).trans (State.raiseRadioState_only _ _ _ _).lasting).trans
      (State.resetJudgement_lasting _ _ _)).trans (State.emptyOutstanding_lasting _ _)
  · exact ((s.setRadio_lasting _ _).trans (State.raiseRadioState_only _ _ _ _).lasting).trans (State.resetJudgement_lasting _ _ _)

theorem State.startWarm_lasting (r : Radio) (c : RadioCause) : Lasting s (s.startWarm r c) :=
  (((s.setRadio_lasting _ _).trans (State.raiseRadioState_only _ _ _ _).lasting).trans (State.refreshUsable_lasting _ _)).trans
    (State.emit_lasting _ _)

theorem State.askWarm_lasting (r : Radio) (c : RadioCause) : Lasting s (s.askWarm r c) := by
  unfold State.askWarm
  split
  · exact s.startWarm_lasting r c
  · exact .refl s

theorem State.changeReady_lasting (r : Radio) (x : RadioState) : Lasting s (s.changeReady r x) :=
  ((s.setRadio_lasting _ _).trans (State.raiseRadioState_only _ _ _ _).lasting).trans (State.emit_lasting _ _)

theorem State.retest_lasting (r : Radio) : Lasting s (s.retest r) := by
  unfold State.retest
  dsimp only
  split
  · exact s.enterOff_lasting _ _
  · split
    · exact s.changeReady_lasting _ _
    · exact .refl s

theorem State.setStranded_lasting (b : Bool) : Lasting s (s.setStranded b) :=
  ((s.setSelector_lasting rfl).trans (State.writeStateWord_only _).lasting).trans (State.raise_lasting _ _)

theorem State.changeCarrier_lasting (u : Uplink) (c : CarrierReason) : Lasting s (s.changeCarrier u c) := by
  unfold State.changeCarrier
  dsimp only
  refine Lasting.trans ?_ (State.walkTrigger_lasting _ _)
  refine Lasting.trans ?_ (State.emit_lasting _ _)
  split
  · exact (((s.setSelector_lasting rfl).trans (State.writeStateWord_only _).lasting).trans (State.raise_lasting _ _)).trans
      (State.setStranded_lasting _ _)
  · exact ((s.setSelector_lasting rfl).trans (State.writeStateWord_only _).lasting).trans (State.raise_lasting _ _)

theorem State.fromFibre_lasting : Lasting s s.fromFibre := by
  unfold State.fromFibre
  split
  · exact .refl s
  · split
    · exact s.changeCarrier_lasting _ _
    · exact .refl s

theorem State.switchTest_lasting (x : Radio) (b : Bool) : Lasting s (s.switchTest x b) := by
  unfold State.switchTest
  split
  · split
    · split
      · exact s.changeCarrier_lasting _ _
      · exact s.setSelector_lasting rfl
    · exact .refl s
  · exact s.setSelector_lasting rfl

theorem State.fromRadio_lasting (x : Radio) (b : Bool) : Lasting s (s.fromRadio x b) := by
  unfold State.fromRadio
  split
  · exact s.changeCarrier_lasting _ _
  · split
    · exact s.switchTest_lasting _ _
    · split
      · exact s.changeCarrier_lasting _ _
      · split
        · exact s.changeCarrier_lasting _ _
        · exact .refl s

theorem State.carrierProcedure_lasting (b : Bool) : Lasting s (s.carrierProcedure b) := by
  unfold State.carrierProcedure
  split
  · exact .refl s
  · split
    · exact s.fromFibre_lasting
    · exact s.fromRadio_lasting _ _

theorem State.testStranded_lasting : Lasting s s.testStranded := by
  unfold State.testStranded
  split
  · exact .refl s
  · exact s.setStranded_lasting _

theorem State.emitAll_lasting (l : List Radio) : ∀ s : State, Lasting s (l.foldl (fun t r => t.emit (.autoWarm r)) s) := by
  induction l with
  | nil => exact fun s => .refl s
  | cons r t ih => exact fun s => (s.emit_lasting _).trans (ih _)

theorem State.evaluate_lasting (b : Bool) : Lasting s (s.evaluate b) :=
  ((s.carrierProcedure_lasting b).trans (State.testStranded_lasting _)).trans (State.emitAll_lasting _ _)

theorem State.usabilityAtSelector_lasting (u : Uplink) (b : Bool) : Lasting s (s.usabilityAtSelector u b) := by
  unfold State.usabilityAtSelector
  split
  · exact (s.setSelector_lasting rfl).trans (State.evaluate_lasting _ _)
  · exact s.evaluate_lasting _
  · exact s.evaluate_lasting _

theorem State.deliver_lasting (d : Delivery) : Lasting s (s.deliver d) := by
  cases d with
  | evaluate => exact s.evaluate_lasting _
  | usability u b => exact s.usabilityAtSelector_lasting _ _
  | carrierMoved => exact (s.retest_lasting _).trans (State.retest_lasting _ _)
  | countCrossed r => exact s.retest_lasting _
  | autoWarm r => exact s.askWarm_lasting _ _

theorem State.settle_lasting (n : Nat) (s : State) : Lasting s (State.settle n s) := by
  refine State.settle_keeps (P := fun t => Lasting s t) ?_ ?_ n s (.refl s)
  · exact fun t ds h => h.trans (.of_same rfl rfl rfl)
  · exact fun t d h => h.trans (t.deliver_lasting d)

/-- An answer in a slot stays while notices are recorded. -/
theorem NoticesOnly.answered {s t : State} (h : NoticesOnly s t) (hc : t.clock = s.clock) {k : Ticket} {o : RequestOutcome} {body : List Word}
    (hl : body.length ≤ 28) (ha : Answered s k o body) : Answered t k o body := by
  have hb : t.regs.areaBase = s.regs.areaBase := by simp only [Registers.areaBase, h.areaLow, h.areaHigh]
  have hs : t.slotAddress k = s.slotAddress k := by simp only [State.slotAddress, State.area, hb]
  have hk := k.slot.isLt
  have hby : ∀ j, j < 128 → readByte t.memory (s.slotAddress k + j) = readByte s.memory (s.slotAddress k + j) := by
    intro j hj
    refine h.bytes _ ?_
    rw [show s.slotAddress k + j = s.regs.areaBase + (slotOffset k.slot.val + j) by simp only [State.slotAddress, State.area]; omega]
    rintro (hn | hn)
    · rw [among_base (by decide) (by unfold addressSpace slotOffset; omega)] at hn
      unfold slotOffset at hn; omega
    · rw [among_offset (by decide) (by unfold addressSpace slotOffset; omega)] at hn
      unfold slotOffset at hn; omega
  have hw : ∀ j, j + 4 ≤ 128 → t.memoryWord (s.slotAddress k + j) = s.memoryWord (s.slotAddress k + j) := by
    intro j hj
    unfold State.memoryWord
    have e : readBytes t.memory (s.slotAddress k + j) 4 = readBytes s.memory (s.slotAddress k + j) 4 :=
      readBytes_congr 4 _ (fun i hi => by rw [Nat.add_assoc]; exact hby _ (by omega))
    rw [e]
  refine ⟨?_, ?_, ?_, fun ho i hi => ?_, h.cause 0 ha.cause⟩
  · have := hby 0 (by omega)
    unfold State.token at *
    show (readByte t.memory (t.slotAddress k)).toNat = _
    rw [hs, show readByte t.memory (s.slotAddress k) = readByte s.memory (s.slotAddress k) from this]
    exact ha.token
  · rw [hs, hby 2 (by omega)]; exact ha.outcome
  · rw [hs, hw 8 (by omega), ha.time]; simp only [State.now, hc]
  · rw [hs, Nat.add_assoc, hw _ (by omega), ← Nat.add_assoc]; exact ha.words ho i hi

end Sys2Proof.Machine
end

