-- ==== Sys2Proof/Laws/Flows.lean ====
section
/-! SUPPORT. A full flow table: which entry is the victim, and that the new entry takes its place (R116, R117). -/

namespace Sys2Proof.Machine

/-- Rising indices below a bound, as many as the bound leaves above `n`, are all the indices from `n` on. -/
theorem rising_full : ∀ {es : List (Nat × FlowEntry)} {n m : Nat}, es.Pairwise (fun p q => p.1 < q.1) → (∀ p ∈ es, n ≤ p.1 ∧ p.1 < m) →
    m ≤ n + es.length → es.map (·.1) = List.range' n es.length
  | [], _, _, _, _, _ => rfl
  | p :: t, n, m, hr, hb, hl => by
    have hr' := List.pairwise_cons.mp hr
    have hgap : ∀ {l : List (Nat × FlowEntry)} {a : Nat}, l.Pairwise (fun p q => p.1 < q.1) → (∀ q ∈ l, a < q.1 ∧ q.1 < m) →
        l.length + a < m ∨ l = [] := by
      intro l
      induction l with
      | nil => exact fun _ _ => .inr rfl
      | cons q u ih =>
        intro a hq hb
        have hq' := List.pairwise_cons.mp hq
        have h1 := hb q (by simp)
        left
        rcases ih (a := q.1) hq'.2 (fun x hx => ⟨hq'.1 x hx, (hb x (by simp [hx])).2⟩) with h | h
        · simp only [List.length_cons]; omega
        · subst h; simp only [List.length_cons, List.length_nil]; omega
    have hp := hb p (by simp)
    simp only [List.length_cons] at hl
    have he : p.1 = n := by
      rcases hgap hr'.2 (fun q hq => ⟨hr'.1 q hq, (hb q (by simp [hq])).2⟩) with h | h
      · omega
      · subst h; simp only [List.length_nil] at hl; omega
    rw [List.map_cons, List.length_cons, List.range'_succ, he, rising_full (n := n + 1) (m := m) hr'.2
      (fun q hq => ⟨by have := hr'.1 q hq; omega, (hb q (by simp [hq])).2⟩) (by omega)]

/-- The lowest free index once an entry has left a table without gaps is the one it had, and a new entry there stands in its place. -/
theorem insert_remove_full : ∀ {es : List (Nat × FlowEntry)} {n : Nat} {i : Nat} {e : FlowEntry} (_ : es.map (·.1) = List.range' n es.length)
    (_ : i ∈ es.map (·.1)), lowestFree n (removeEntry es i) = i ∧ insertEntry (removeEntry es i) i e = replaceEntry es i e
  | [], _, _, _, _, hi => by simp at hi
  | p :: t, n, i, e, he, hi => by
    rw [List.map_cons, List.length_cons, List.range'_succ, List.cons.injEq] at he
    have hge : ∀ q ∈ t, n + 1 ≤ q.1 := fun q hq => by
      have : q.1 ∈ List.range' (n + 1) t.length := he.2 ▸ List.mem_map_of_mem hq
      exact (List.mem_range'_1.mp this).1
    by_cases hp : p.1 = i
    · have hni : ∀ q ∈ t, q.1 ≠ i := fun q hq => by have := hge q hq; omega
      have hrem : removeEntry (p :: t) i = t := by
        unfold removeEntry
        rw [List.filter_cons_of_neg (by simp [hp]), List.filter_eq_self]
        exact fun q hq => by simp [hni q hq]
      have hrep : replaceEntry t i e = t := by
        unfold replaceEntry
        refine (List.map_congr_left fun q hq => ?_).trans (List.map_id _)
        rw [if_neg (hni q hq)]; rfl
      rw [hrem]
      refine ⟨?_, ?_⟩
      · cases t with
        | nil => simp only [lowestFree]; omega
        | cons q u => have := hge q (by simp); rw [lowestFree, if_neg (by omega)]; omega
      · have hcons : replaceEntry (p :: t) i e = (i, e) :: t := by
          show (if p.1 = i then (i, e) else p) :: replaceEntry t i e = _
          rw [if_pos hp, hrep]
        rw [hcons]
        cases t with
        | nil => rfl
        | cons q u => have := hge q (by simp); rw [insertEntry, if_pos (by omega)]
    · have hi' : i ∈ t.map (·.1) := by
        rcases List.mem_cons.mp (by simpa using hi : i ∈ p.1 :: t.map (·.1)) with h | h
        · exact absurd h.symm hp
        · exact h
      have ih := insert_remove_full (e := e) he.2 hi'
      have hrem : removeEntry (p :: t) i = p :: removeEntry t i := by
        unfold removeEntry
        rw [List.filter_cons_of_pos (by simp [hp])]
      have hlt : p.1 < i := by
        obtain ⟨q, hq, hqi⟩ := List.mem_map.mp hi'
        have := hge q hq; omega
      rw [hrem]
      refine ⟨?_, ?_⟩
      · rw [lowestFree, if_pos he.1, ih.1]
      · rw [insertEntry, if_neg (by omega), ih.2]; simp [replaceEntry, hp]

/-- The victim of a table whose indices rise is the evictable entry seen least recently, of lowest index among equals (R117). -/
theorem victimOf_eq {now : Word} : ∀ {es : List (Nat × FlowEntry)} {i : Nat} {v : FlowEntry}, es.Pairwise (fun p q => p.1 < q.1) →
    (i, v) ∈ es → v.evictable = true → (∀ q ∈ es, q.2.evictable = false ∨ (now - q.2.lastSeen).toNat < (now - v.lastSeen).toNat ∨
      ((now - q.2.lastSeen).toNat = (now - v.lastSeen).toNat ∧ i ≤ q.1)) → victimOf now es = some (i, v)
  | [], _, _, _, h, _, _ => by simp at h
  | p :: t, i, v, hr, hm, hv, ho => by
    have hr' := List.pairwise_cons.mp hr
    have hpo := ho p (by simp)
    have hto := fun q (hq : q ∈ t) => ho q (by simp [hq])
    have hmem : ∀ {l : List (Nat × FlowEntry)} {q}, victimOf now l = some q → q ∈ l ∧ q.2.evictable = true := by
      intro l
      induction l with
      | nil => simp [victimOf]
      | cons a u ih =>
        intro q hq
        unfold victimOf at hq
        split at hq
        · split at hq
          · cases hq; exact ⟨by simp, ‹_›⟩
          · cases hq
        · split at hq
          · next h => cases hq; exact ⟨by simp, by simp at h; exact h.1⟩
          · cases hq; exact ⟨by simp [(ih ‹_›).1], (ih ‹_›).2⟩
    rcases List.mem_cons.mp hm with he | ht
    · subst he
      unfold victimOf
      split
      · rw [if_pos hv]
      · next q hq =>
        have h := hto q (hmem hq).1
        rw [if_pos]
        simp only [(hmem hq).2, Bool.true_eq_false, false_or] at h
        simp only [hv, Bool.true_and, decide_eq_true_eq]
        omega
    · have hlt := hr'.1 _ ht
      unfold victimOf
      rw [victimOf_eq hr'.2 ht hv hto]
      simp only
      rw [if_neg]
      rcases hpo with h | h | h
      · simp [h]
      · simp only [Bool.and_eq_true, decide_eq_true_eq, not_and]; omega
      · simp only at hlt; omega

end Sys2Proof.Machine
end

