-- ==== Sys2Proof/Laws/Judgement.lean ====
section
/-! SUPPORT. What the verdict operations of the Uplink Judge do to a judgement, and what they leave alone. -/

namespace Sys2Proof.Machine

variable (s : State)

theorem State.usableTerms_failed (u : Uplink) (h : (s.judge u).verdict = .failed) : s.usableTerms u = false := by
  unfold State.usableTerms; cases u <;> simp [Uplink.radio?, h, verdictWorks]

theorem State.refreshUsable_judge (u : Uplink) (h : s.usableTerms u = false) :
    (s.refreshUsable u).judge u = { s.judge u with usable := false } := by
  unfold State.refreshUsable; dsimp only; rw [h]
  split
  · rename_i e; rw [e]
  · simp [State.judge, State.emit, State.walkTrigger, State.setJudge]

theorem State.refreshUsable_judge_ne (u v : Uplink) (h : v ≠ u) : (s.refreshUsable u).judge v = s.judge v := by
  unfold State.refreshUsable; dsimp only
  split
  · rfl
  · simp [State.judge, State.emit, State.walkTrigger, State.setJudge, PerUplink.get_set_ne _ _ h]

theorem State.setJudge_judge (u : Uplink) (x : Judgement) : (s.setJudge u x).judge u = x := by simp [State.judge, State.setJudge]
theorem State.setJudge_judge_ne (u v : Uplink) (x : Judgement) (h : v ≠ u) : (s.setJudge u x).judge v = s.judge v := by
  simp [State.judge, State.setJudge, PerUplink.get_set_ne _ _ h]

theorem State.raise_judge (n : Notice) (u : Uplink) : (s.raise n).judge u = s.judge u := by simp only [State.judge, (s.raise_only n).judges]
theorem State.raiseSuppression_judge (v : Uplink) (c : Nat) (u : Uplink) : (s.raiseSuppression v c).judge u = s.judge u := by simp only [State.judge, (s.raiseSuppression_only v c).judges]

theorem State.failVerdict_judge (u : Uplink) (c : VerdictCause) (p : Bool) (hv : (s.judge u).verdict ≠ .failed) :
    (s.changeVerdict u .failed c p).judge u =
     { (s.judge u).withVerdict .failed p (s.cfg.judges.get u).suppress (s.after 1000) with usable := false } := by
  unfold State.changeVerdict; dsimp only; rw [if_neg hv]
  have h : ∀ x : Judgement, x.verdict = .failed → ((s.setJudge u x).refreshUsable u).judge u = {x with usable := false} := by
    intro x hx; rw [State.refreshUsable_judge, State.setJudge_judge]
    exact State.usableTerms_failed _ _ (by rw [State.setJudge_judge]; exact hx)
  have hw : ((s.judge u).withVerdict .failed p (s.cfg.judges.get u).suppress (s.after 1000)).verdict = .failed := by
    unfold Judgement.withVerdict; rw [if_pos rfl]; split <;> rfl
  split
  · show ((State.emit _ _).judge u) = _
    show ((State.raise _ _).judge u) = _
    rw [State.raise_judge, h _ hw]
  · show ((State.raiseSuppression _ _ _).judge u) = _
    rw [State.raiseSuppression_judge, State.raise_judge, h _ hw]

theorem State.changeVerdict_judge_ne (u v : Uplink) (w : Verdict) (c : VerdictCause) (p : Bool) (h : v ≠ u) : (s.changeVerdict u w c p).judge v = s.judge v := by
  unfold State.changeVerdict; dsimp only
  split
  · rfl
  split
  · show ((State.raise _ _).judge v) = _
    rw [State.raise_judge, State.refreshUsable_judge_ne _ _ _ h, State.setJudge_judge_ne _ _ _ _ h]
  · show ((State.raiseSuppression _ _ _).judge v) = _
    rw [State.raiseSuppression_judge, State.raise_judge, State.refreshUsable_judge_ne _ _ _ h, State.setJudge_judge_ne _ _ _ _ h]

theorem State.failUplink_judge (u : Uplink) (c : VerdictCause) :
    let j := (s.failUplink u c).judge u
    j.verdict = .failed ∧ j.usable = false ∧ j.window = [] ∧ j.srtt = none ∧
    j.merit = none ∧ j.runAnswered = 0 ∧ j.runLost = 0 ∧
    j.penalty = (if (s.judge u).verdict = .good ∨ (s.judge u).verdict = .poor then min 16000 ((s.judge u).penalty + 1000)
      else (s.judge u).penalty) := by
  unfold State.failUplink
  split
  · rename_i hv
    rw [State.refreshUsable_judge]
    · simp [State.renewFailure, State.clearJudge, Judgement.cleared, hv]
    · exact State.usableTerms_failed _ _ (by simp [State.renewFailure, State.clearJudge, Judgement.cleared, hv])
  · rename_i hv
    have e := State.failVerdict_judge s u c true hv
    rw [State.refreshUsable_judge]
    · rw [e]
      unfold Judgement.withVerdict
      rw [if_pos rfl]
      cases hw : (s.judge u).verdict <;> simp_all [verdictWorks, Judgement.cleared, penaltyAdd]
    · exact State.usableTerms_failed _ _ (by
        rw [e]; unfold Judgement.withVerdict; rw [if_pos rfl]; split <;> rfl)

theorem State.refreshUsable_blocks (u : Uplink) : (s.refreshUsable u).radios = s.radios ∧ (s.refreshUsable u).probers = s.probers := by
  unfold State.refreshUsable; dsimp only
  split <;> exact ⟨rfl, rfl⟩

theorem State.changeVerdict_blocks (u : Uplink) (w : Verdict) (c : VerdictCause) (p : Bool) : (s.changeVerdict u w c p).radios = s.radios ∧ (s.changeVerdict u w c p).probers = s.probers := by
  unfold State.changeVerdict; dsimp only
  split
  · exact ⟨rfl, rfl⟩
  have := fun x : Judgement => State.refreshUsable_blocks (s.setJudge u x) u
  split
  · exact ⟨(State.raise_only _ _).radios.trans (this _).1, (State.raise_only _ _).probers.trans (this _).2⟩
  · exact ⟨(State.raiseSuppression_only _ _ _).radios.trans ((State.raise_only _ _).radios.trans (this _).1), (State.raiseSuppression_only _ _ _).probers.trans ((State.raise_only _ _).probers.trans (this _).2)⟩

theorem State.failUplink_blocks (u : Uplink) (c : VerdictCause) : (s.failUplink u c).radios = s.radios ∧ (s.failUplink u c).probers = s.probers := by
  unfold State.failUplink
  split
  · exact State.refreshUsable_blocks (s.renewFailure u) u
  · have h1 := State.changeVerdict_blocks s u .failed c true
    have h2 := State.refreshUsable_blocks (s.changeVerdict u .failed c true) u
    exact ⟨h2.1.trans h1.1, h2.2.trans h1.2⟩

theorem State.failUplink_judge_ne (u v : Uplink) (c : VerdictCause) (h : v ≠ u) : (s.failUplink u c).judge v = s.judge v := by
  unfold State.failUplink
  rw [State.refreshUsable_judge_ne _ _ _ h]
  split
  · exact State.setJudge_judge_ne _ _ _ _ h
  · exact State.changeVerdict_judge_ne _ _ _ _ _ _ h


end Sys2Proof.Machine
end

