-- ==== Sys2Proof/Laws/Notices.lean ====
section
/-! SUPPORT. What a notice and a failed access do, said once; and that a recorded notice stays while others are recorded. -/

namespace Sys2Proof.Machine

variable {s : State}

/-- A failed access leaves the failed state (R164, R174). -/
theorem State.accessFailure_eq : s.accessFailure = s.failed := rfl

theorem State.readAccess_failed (hr : s.running = true) (ha : s.access = some 0) : s.readAccess = s.failed := by
  unfold State.readAccess
  rw [if_pos hr, if_pos ha, State.accessFailure_eq]

theorem State.writeAccess_failed (hr : s.running = true) (ha : s.access = some 0) (a : Nat) (l : List Byte) :
    s.writeAccess a l = s.failed := by
  unfold State.writeAccess
  rw [if_pos hr, if_pos ha, State.accessFailure_eq]

/-- A part whose access failed has stopped. -/
theorem State.failed_running : s.failed.running = false := by
  show (s.regs.control &&& ~~~1).getLsbD 0 = false
  simp

/-- A record is read at the area base alone. -/
theorem State.noted_iff {t : State} (h : t.regs.areaBase = s.regs.areaBase) (i : Nat) (n : Notice) (now : Word) :
    t.noted i n now ↔ readBytes t.memory (s.area (noticeOffset (i % 128))) 28 = n.bytes now := by
  simp only [State.noted, State.area, h]

/-- Host memory after a recorded notice. -/
@[irreducible] def noticeMemory (s : State) (n : Notice) : List Host.Cell :=
  writeBytes (writeBytes s.memory (s.area (noticeOffset (s.exchange.writeCount.toNat % 128))) (n.bytes s.now)) (s.area 4)
    (leBytes 2 (s.exchange.writeCount + 1).toNat)

theorem State.recordNotice_clean (hr : s.running = true) (ha : s.access = none) (n : Notice) : s.recordNotice n =
    { s with
      memory := noticeMemory s n
      exchange := { s.exchange with writeCount := s.exchange.writeCount + 1 }, regs := s.regs.setCause causeNotice } := by
  unfold State.recordNotice
  dsimp only
  rw [State.writeAccess_clean hr ha, State.withMemory_writeAccess hr ha]
  simp only [State.withMemory_running, State.withMemory_area, hr, if_true]
  unfold noticeMemory
  generalize writeBytes (writeBytes _ _ _) _ _ = mem
  rfl

theorem State.loseNotice_clean (hr : s.running = true) (ha : s.access = none) : s.loseNotice =
    { s with
      memory := writeBytes s.memory (s.area 6) (leBytes 2 (bump s.exchange.lostCount))
      exchange := { s.exchange with lostCount := bump s.exchange.lostCount }, regs := s.regs.setCause causeLost } := by
  unfold State.loseNotice
  dsimp only
  exact State.writeAccess_clean (s := { s with
    exchange := { s.exchange with lostCount := bump s.exchange.lostCount }, regs := s.regs.setCause causeLost }) hr ha _ _

theorem noticeOffset_apart {i j k : Nat} (h : i % 128 ≠ j % 128) (hk : k < 28) (b : Nat) :
    ¬ among (b + noticeOffset (j % 128)) 28 (b + noticeOffset (i % 128) + k) := by
  rw [Nat.add_assoc, among_offset (by unfold noticeOffset addressSpace; omega) (by unfold noticeOffset addressSpace; omega)]
  unfold noticeOffset
  omega

/-- The header's counts lie outside every record of the log. -/
theorem header_apart {h n i k : Nat} (hn : h + n ≤ 0x1100) (hk : k < 28) (b : Nat) :
    ¬ among (b + h) n (b + noticeOffset (i % 128) + k) := by
  rw [Nat.add_assoc, among_offset (by unfold addressSpace; omega) (by unfold noticeOffset addressSpace; omega)]
  unfold noticeOffset
  omega

theorem noticeMemory_noted (hm : memoryWf s.memory = true) (n : Notice) :
    readBytes (noticeMemory s n) (s.area (noticeOffset (s.exchange.writeCount.toNat % 128))) 28 = n.bytes s.now := by
  unfold noticeMemory
  rw [readBytes_writeBytes_other _ (writeBytes_wf _ hm) (fun j hj => by
    rw [leBytes_length]; exact header_apart (by decide) hj s.regs.areaBase)]
  have e := readBytes_writeBytes (a := s.area (noticeOffset (s.exchange.writeCount.toNat % 128))) (n.bytes s.now) hm
    (by rw [Notice.bytes_length]; decide)
  rwa [Notice.bytes_length] at e

/-- A notice, said once: while the exchange runs and no access fails it is recorded or counted lost, and nothing else changes (R171). -/
theorem State.raise_recorded (hr : s.running = true) (ha : s.access = none) (hm : memoryWf s.memory = true) (n : Notice) :
    Recorded s (s.raise n) n := by
  have e : s.raise n = if s.unread < 128 then s.recordNotice n else s.loseNotice := by
    unfold State.raise
    dsimp only
    rw [if_pos hr, State.readAccess_clean ha, if_pos hr]
  have hb := (s.raise_mild n ⟨ha, hm⟩).2.bytes
  by_cases hu : s.unread < 128
  · rw [if_pos hu, State.recordNotice_clean hr ha] at e
    refine ⟨by rw [e], hb, fun _ => ?_, fun h => absurd hu (by omega)⟩
    rw [e]
    refine ⟨(State.noted_iff (s := s) (by rfl) _ _ _).mpr (noticeMemory_noted hm n), ?_, rfl, rfl⟩
    show readBytes (noticeMemory s n) (s.area 4) 2 = _
    unfold noticeMemory
    have h2 := readBytes_writeBytes (a := s.area 4) (leBytes 2 (s.exchange.writeCount + 1).toNat)
      (writeBytes_wf (a := s.area (noticeOffset (s.exchange.writeCount.toNat % 128))) (n.bytes s.now) hm)
      (by rw [leBytes_length]; decide)
    rwa [leBytes_length] at h2
  · rw [if_neg hu, State.loseNotice_clean hr ha] at e
    refine ⟨by rw [e], hb, fun h => absurd h hu, fun _ => ?_⟩
    rw [e]
    refine ⟨?_, rfl⟩
    simp [bump]

/-- A record that the next one does not take the place of stays as it is. -/
theorem State.raise_keeps_record (hr : s.running = true) (ha : s.access = none) (hm : memoryWf s.memory = true) (n x : Notice)
    {i : Nat} {now : Word} (hi : i % 128 ≠ s.exchange.writeCount.toNat % 128 ∨ 128 ≤ s.unread) (h : s.noted i x now) :
    (s.raise n).noted i x now := by
  have e : s.raise n = if s.unread < 128 then s.recordNotice n else s.loseNotice := by
    unfold State.raise
    dsimp only
    rw [if_pos hr, State.readAccess_clean ha, if_pos hr]
  rw [e]
  split
  · rw [State.recordNotice_clean hr ha]
    refine (State.noted_iff (s := s) (by rfl) _ _ _).mpr (Eq.trans ?_ h)
    show readBytes (noticeMemory s n) (s.area _) 28 = _
    unfold noticeMemory
    rw [readBytes_writeBytes_other _ (writeBytes_wf _ hm) (fun j hj => by
        rw [leBytes_length]; exact header_apart (by decide) hj s.regs.areaBase),
      readBytes_writeBytes_other _ hm (fun j hj => by
        rw [Notice.bytes_length]
        exact noticeOffset_apart (hi.resolve_right (by omega)) hj s.regs.areaBase)]
  · rw [State.loseNotice_clean hr ha]
    refine (State.noted_iff (s := s) (by rfl) _ _ _).mpr (Eq.trans ?_ h)
    dsimp only
    rw [readBytes_writeBytes_other _ hm (fun j hj => by
        rw [leBytes_length]; exact header_apart (by decide) hj s.regs.areaBase)]

/-- The device state word stays out of the log. -/
theorem State.writeStateWord_keeps_record (hr : s.running = true) (ha : s.access = none) (hm : memoryWf s.memory = true) (x : Notice)
    {i : Nat} {now : Word} (h : s.noted i x now) : s.writeStateWord.noted i x now := by
  unfold State.writeStateWord
  rw [State.writeAccess_clean hr ha]
  refine (State.noted_iff (s := s) (by rfl) _ _ _).mpr (Eq.trans ?_ h)
  rw [State.withMemory_memory]
  exact readBytes_writeBytes_other _ hm (fun j hj => by
    rw [leBytes_length]; exact header_apart (by decide) hj s.regs.areaBase)

end Sys2Proof.Machine
end

