-- ==== Sys2Proof/Laws/Radios.lean ====
section
/-! SUPPORT. What entering OFF and a reset judgement do to a radio, and what they leave alone. -/

namespace Sys2Proof.Machine

variable (s : State)

theorem State.setRadio_undrained (h : s.undrained) (r : Radio) (x : RadioUnit) (hx : x.draining = false) : (s.setRadio r x).undrained := fun q => by
  by_cases e : q = r
  · subst e; rw [State.radio_setRadio_same]; exact hx
  · rw [State.radio_setRadio_other _ _ e]; exact h q

theorem OnlyExchange.radio {s t : State} (h : OnlyExchange s t) (r) : t.radio r = s.radio r := by simp only [State.radio, h.radios]
theorem OnlyExchange.judge {s t : State} (h : OnlyExchange s t) (r) : t.judge r = s.judge r := by simp only [State.judge, h.judges]
theorem OnlyExchange.undrained {s t : State} (h : OnlyExchange s t) (hd : s.undrained) : t.undrained := fun r => by rw [OnlyExchange.radio h]; exact hd r

theorem State.resetJudgement_blocks (r c) : (s.resetJudgement r c).radios = s.radios ∧ (s.resetJudgement r c).probers = s.probers := by
  unfold State.resetJudgement
  have h1 := State.changeVerdict_blocks s r.uplink .unknown c false
  have h2 := State.refreshUsable_blocks ((s.changeVerdict r.uplink .unknown c false).clearJudge r.uplink) r.uplink
  exact ⟨h2.1.trans h1.1, h2.2.trans h1.2⟩

theorem State.resetJudgement_judge (r c) : ((s.resetJudgement r c).judge r.uplink).verdict = .unknown ∧ ((s.resetJudgement r c).judge r.uplink).window = [] ∧ ((s.resetJudgement r c).judge r.uplink).srtt = none ∧ ((s.resetJudgement r c).judge r.uplink).usable = false := by
  have hv : ((s.changeVerdict r.uplink .unknown c false).judge r.uplink).verdict = .unknown := by
    unfold State.changeVerdict; dsimp only
    split
    · assumption
    · have e : ∀ x : Judgement, (((s.setJudge r.uplink x).refreshUsable r.uplink).judge r.uplink).verdict = x.verdict := by
        intro x; unfold State.refreshUsable; dsimp only; split
        · simp
        · simp [State.judge, State.emit, State.walkTrigger, State.setJudge]
      split
      · show ((State.raise _ _).judge _).verdict = _
        rw [State.raise_judge, e]; rfl
      · show ((State.raiseSuppression _ _ _).judge _).verdict = _
        rw [State.raiseSuppression_judge, State.raise_judge, e]; rfl
  unfold State.resetJudgement
  rw [State.refreshUsable_judge]
  · simp [State.clearJudge, Judgement.cleared, hv]
  · unfold State.usableTerms; simp [State.clearJudge, Judgement.cleared, hv, verdictWorks]

theorem State.enterOff_radio (r c) : (s.enterOff r c).radio r = { s.radio r with state := .off, draining := false, warmMin := none, attachLimit := none, coolHold := none }
   ∧ (s.enterOff r c).radio r.other = s.radio r.other := by
  have key : (s.enterOff r c).radios = s.radios.set r { s.radio r with state := .off, draining := false, warmMin := none, attachLimit := none, coolHold := none } := by
    unfold State.enterOff
    dsimp only
    show (ite _ _ _ : State).radios = _
    have e : ((State.raiseRadioState (s.setRadio r { s.radio r with state := .off, draining := false, warmMin := none, attachLimit := none, coolHold := none }) r (s.radio r).state c).resetJudgement r .radioOff).radios = s.radios.set r { s.radio r with state := .off, draining := false, warmMin := none, attachLimit := none, coolHold := none } :=
      (State.resetJudgement_blocks _ _ _).1.trans ((State.raiseRadioState_only _ _ _ _).radios.trans rfl)
    split
    · rw [← e]
      unfold State.emptyOutstanding; dsimp only
      split
      · rfl
      · exact (State.endTimed_only _ _ _ _).radios
    · exact e
  constructor
  · simp only [State.radio, key, PerRadio.get_set]
  · simp only [State.radio, key, PerRadio.get_set_ne _ _ (Radio.other_ne r)]

theorem State.enterOff_undrained (r c) (h : s.undrained) : (s.enterOff r c).undrained := fun q => by
  by_cases e : q = r
  · subst e; rw [(State.enterOff_radio _ _ _).1]
  · rw [Radio.eq_other e, (State.enterOff_radio _ _ _).2]; exact h _

theorem State.enterOff_judge (r c) : ((s.enterOff r c).judge r.uplink).verdict = .unknown ∧ ((s.enterOff r c).judge r.uplink).window = [] := by
  have e : ∀ (x : State), (x.emptyOutstanding r.uplink).judges = x.judges := by
    intro x; unfold State.emptyOutstanding; dsimp only; split
    · rfl
    · exact (State.endTimed_only _ _ _ _).judges
  unfold State.enterOff; dsimp only
  show ((ite _ _ _ : State).judge _).verdict = _ ∧ ((ite _ _ _ : State).judge _).window = _
  have h := State.resetJudgement_judge (State.raiseRadioState (s.setRadio r { s.radio r with state := .off, draining := false, warmMin := none, attachLimit := none, coolHold := none }) r (s.radio r).state c) r .radioOff
  split
  · simp only [State.judge, e]; exact ⟨h.1, h.2.1⟩
  · exact ⟨h.1, h.2.1⟩


end Sys2Proof.Machine
end

