-- ==== Sys2Proof/Laws/Shown.lean ====
section
/-! SUPPORT. The device state word in host memory: while no access fails, nothing that a delivery does leaves it behind the part (R163). -/

namespace Sys2Proof.Machine

/-- While the exchange runs, host memory shows the device state word as it stands (R163, R184). -/
def State.shown (s : State) : Prop := s.running = true → readBytes s.memory (s.area 0) 4 = leBytes 4 s.stateWord

/-- From a calm state that shows the word to a calm state that shows it. -/
def Shows (s t : State) : Prop := s.calm ∧ s.shown → t.calm ∧ t.shown

namespace Shows

theorem refl (s : State) : Shows s s := id

theorem trans {s t u : State} (h : Shows s t) (k : Shows t u) : Shows s u := fun hs => k (h hs)

/-- An update of anything but the registers, host memory, the command's access and what the word holds. -/
theorem of_same {s t : State} (hg : t.regs = s.regs) (hm : t.memory = s.memory) (ha : t.access = s.access) (hw : t.stateWord = s.stateWord) :
    Shows s t := by
  rintro ⟨⟨h1, h2⟩, h3⟩
  refine ⟨⟨ha.trans h1, by rw [hm]; exact h2⟩, fun hr => ?_⟩
  have hr' : s.running = true := by simpa only [State.running, hg] using hr
  rw [hm, hw, ← h3 hr']
  simp only [State.area, hg]

end Shows

variable (s : State)

/-- Two runs of bytes that lie apart within the area do not meet, whatever the base. -/
theorem among_apart {base n k m j : Nat} (h : m ≤ n) (hn : n + k ≤ 0x2100) (hj : j < m) : ¬ among (base + n) k (base + j) := by
  rintro ⟨i, hi, he⟩
  unfold addressSpace at he
  omega

/-- A write within the area past the word leaves the word alone. -/
theorem readWord_writeBytes {base n : Nat} {m : List Host.Cell} (l : List Byte) (hm : memoryWf m = true) (h : 4 ≤ n)
    (hl : n + l.length ≤ 0x2100) : readBytes (writeBytes m (base + n) l) (base + 0) 4 = readBytes m (base + 0) 4 :=
  readBytes_writeBytes_other l hm (fun j hj => by
    rw [Nat.add_zero]
    exact among_apart (m := 4) h hl hj)

theorem State.writeAccess_shows (n : Nat) (l : List Byte) (h : 4 ≤ n) (hl : n + l.length ≤ 0x2100) : Shows s (s.writeAccess (s.area n) l) := by
  rintro ⟨hc, hs⟩
  by_cases hr : s.running = true
  · rw [State.writeAccess_clean hr hc.1]
    refine ⟨⟨hc.1, writeBytes_wf _ hc.2⟩, fun hr' => ?_⟩
    exact (readWord_writeBytes l hc.2 h hl).trans (hs hr)
  · unfold State.writeAccess
    rw [if_neg hr]
    exact ⟨hc, hs⟩

/-- Whatever was shown before, a rewritten word shows the part as it stands. -/
theorem State.writeStateWord_shown (hc : s.calm) : s.writeStateWord.calm ∧ s.writeStateWord.shown := by
  unfold State.writeStateWord
  by_cases hr : s.running = true
  · rw [State.writeAccess_clean hr hc.1]
    refine ⟨⟨hc.1, writeBytes_wf _ hc.2⟩, fun _ => ?_⟩
    have h := readBytes_writeBytes (a := s.area 0) (leBytes 4 s.stateWord) hc.2 (by rw [leBytes_length]; decide)
    rw [leBytes_length] at h
    exact h
  · unfold State.writeAccess
    rw [if_neg hr]
    exact ⟨hc, fun h => absurd h hr⟩

theorem State.setSelector_writeStateWord_shows (x : Selector) : Shows s (s.setSelector x).writeStateWord := fun h =>
  State.writeStateWord_shown (s.setSelector x) h.1

theorem State.setRadio_shows (r : Radio) (x : RadioUnit) : Shows s (s.setRadio r x) := .of_same rfl rfl rfl rfl
theorem State.setJudge_shows (u : Uplink) (x : Judgement) : Shows s (s.setJudge u x) := .of_same rfl rfl rfl rfl
theorem State.setProber_shows (u : Uplink) (x : Prober) : Shows s (s.setProber u x) := .of_same rfl rfl rfl rfl
theorem State.emit_shows (d : Delivery) : Shows s (s.emit d) := .of_same rfl rfl rfl rfl
theorem State.walkTrigger_shows (k : TriggerKind) : Shows s (s.walkTrigger k) := .of_same rfl rfl rfl rfl

theorem State.setSelector_shows {x : Selector} (hc : x.carrier = s.selector.carrier) (hm : x.mode = s.selector.mode)
    (hs : x.stranded = s.selector.stranded) : Shows s (s.setSelector x) :=
  .of_same rfl rfl rfl (by simp only [State.stateWord, State.setSelector, hc, hm, hs])

/-- Cause bits, notice counts and the in-flight set are no part of it. -/
theorem State.setCauses_shows (bits : Word) (x : Exchange) : Shows s { s with exchange := x, regs := s.regs.setCause bits } := fun h => h

theorem State.recordNotice_shows (n : Notice) : Shows s (s.recordNotice n) := by
  unfold State.recordNotice
  dsimp only
  have h1 := s.writeAccess_shows (noticeOffset (s.exchange.writeCount.toNat % 128)) (n.bytes s.now) (by unfold noticeOffset; omega)
    (by rw [Notice.bytes_length]; unfold noticeOffset; omega)
  have h2 := h1.trans (State.writeAccess_shows _ 4 (leBytes 2 (s.exchange.writeCount + 1).toNat) (by omega) (by simp [leBytes_length]))
  split
  · exact h2.trans (State.setCauses_shows _ _ _)
  · exact h2

theorem State.loseNotice_shows : Shows s s.loseNotice :=
  Shows.trans (t := { s with exchange := { s.exchange with lostCount := bump s.exchange.lostCount }, regs := s.regs.setCause causeLost })
    (s.setCauses_shows _ _) (State.writeAccess_shows _ 6 _ (by omega) (by simp [leBytes_length]))

theorem State.raise_shows (n : Notice) : Shows s (s.raise n) := by
  intro h
  unfold State.raise
  split
  · dsimp only
    rw [State.readAccess_clean h.1.1, if_pos ‹_›]
    split
    · exact s.recordNotice_shows n h
    · exact s.loseNotice_shows h
  · exact h

theorem State.answer_shows (slot : Fin 32) (kind : Nat) (tag : Word) (o : RequestOutcome) {body : List Word} (hl : body.length ≤ 28) :
    Shows s (s.answer slot kind tag o body) := by
  intro h
  by_cases hr : s.running = true
  · by_cases ht : s.token slot = tokenTaken
    · have hf := State.answer_from hr h.1.1 h.1.2 ⟨slot, tag⟩ ht kind o hl
      rw [State.answer_clean hr h.1.1 ht] at hf ⊢
      refine ⟨⟨h.1.1, answerMemory_wf h.1.2⟩, fun _ => (readBytes_congr 4 (s.area 0) fun j hj => ?_).trans (h.2 hr)⟩
      have hs := slot.isLt
      refine hf.other _ (among_apart (m := 4) ?_ ?_ hj) <;> (simp only [slotOffset]; omega)
    · unfold State.answer
      rw [if_pos hr]
      dsimp only
      rw [State.readAccess_clean h.1.1, if_pos hr, if_neg ht]
      exact s.raise_shows _ h
  · unfold State.answer
    rw [if_neg hr]
    exact h

theorem State.endTimed_shows (w : TimedOwner) (o : RequestOutcome) {body : List Word} (hl : body.length ≤ 28) :
    Shows s (s.endTimed w o body) := by
  unfold State.endTimed
  split
  · exact .refl s
  · dsimp only
    split
    · exact Shows.trans (t := { s with exchange := { s.exchange with inFlight := s.exchange.inFlight.filter (fun g => g.owner != w) } })
        (.of_same rfl rfl rfl rfl) (State.answer_shows _ _ _ _ _ hl)
    · exact .of_same rfl rfl rfl rfl

theorem State.refreshUsable_shows (u : Uplink) : Shows s (s.refreshUsable u) := by
  unfold State.refreshUsable
  dsimp only
  split
  · exact .refl s
  · exact ((s.setJudge_shows u _).trans (State.walkTrigger_shows _ _)).trans (State.emit_shows _ _)

theorem State.changeVerdict_shows (u : Uplink) (v : Verdict) (c : VerdictCause) (p : Bool) :
    Shows s (s.changeVerdict u v c p) := by
  unfold State.changeVerdict
  dsimp only
  split
  · exact .refl s
  · have h := ((s.setJudge_shows u ((s.judge u).withVerdict v p (s.cfg.judges.get u).suppress (s.after 1000))).trans
      (State.refreshUsable_shows _ u))
    split
    · exact (h.trans (State.raise_shows _ _)).trans (State.emit_shows _ _)
    · exact (((h.trans (State.raise_shows _ _)).trans (State.raise_shows _ _)).trans
        (State.emit_shows _ _)).trans (State.emit_shows _ _)

theorem State.clearJudge_shows (u : Uplink) : Shows s (s.clearJudge u) := s.setJudge_shows _ _

theorem State.resetJudgement_shows (r : Radio) (c : VerdictCause) : Shows s (s.resetJudgement r c) :=
  ((s.changeVerdict_shows _ _ _ _).trans (State.clearJudge_shows _ _)).trans (State.refreshUsable_shows _ _)

theorem State.failUplink_shows (u : Uplink) (c : VerdictCause) : Shows s (s.failUplink u c) := by
  unfold State.failUplink
  split
  · exact (s.clearJudge_shows u).trans (State.refreshUsable_shows _ _)
  · exact (s.changeVerdict_shows _ _ _ _).trans (State.refreshUsable_shows _ _)

theorem State.finishBurst_shows (u : Uplink) (b : Burst) (o : RequestOutcome) : Shows s (s.finishBurst u b o) :=
  (s.setProber_shows _ _).trans (State.endTimed_shows _ _ _ (by simp [Burst.words]))

theorem State.emptyOutstanding_shows (u : Uplink) : Shows s (s.emptyOutstanding u) := by
  unfold State.emptyOutstanding
  dsimp only
  split
  · exact s.setProber_shows _ _
  · exact (s.setProber_shows _ _).trans (State.finishBurst_shows _ _ _ _)

theorem State.enterOff_shows (r : Radio) (c : RadioCause) : Shows s (s.enterOff r c) := by
  unfold State.enterOff
  dsimp only
  refine Shows.trans ?_ (State.emit_shows _ _)
  split
  · exact (((s.setRadio_shows _ _).trans (State.raise_shows _ _)).trans
      (State.resetJudgement_shows _ _ _)).trans (State.emptyOutstanding_shows _ _)
  · exact ((s.setRadio_shows _ _).trans (State.raise_shows _ _)).trans (State.resetJudgement_shows _ _ _)

theorem State.startWarm_shows (r : Radio) (c : RadioCause) : Shows s (s.startWarm r c) :=
  (((s.setRadio_shows _ _).trans (State.raise_shows _ _)).trans (State.refreshUsable_shows _ _)).trans
    (State.emit_shows _ _)

theorem State.askWarm_shows (r : Radio) (c : RadioCause) : Shows s (s.askWarm r c) := by
  unfold State.askWarm
  split
  · exact s.startWarm_shows r c
  · exact .refl s

theorem State.changeReady_shows (r : Radio) (x : RadioState) : Shows s (s.changeReady r x) :=
  ((s.setRadio_shows _ _).trans (State.raise_shows _ _)).trans (State.emit_shows _ _)

theorem State.retest_shows (r : Radio) : Shows s (s.retest r) := by
  unfold State.retest
  dsimp only
  split
  · exact s.enterOff_shows _ _
  · split
    · exact s.changeReady_shows _ _
    · exact .refl s

theorem State.setStranded_shows (b : Bool) : Shows s (s.setStranded b) :=
  (s.setSelector_writeStateWord_shows _).trans (State.raise_shows _ _)

theorem State.changeCarrier_shows (u : Uplink) (c : CarrierReason) : Shows s (s.changeCarrier u c) := by
  unfold State.changeCarrier
  dsimp only
  refine Shows.trans ?_ (State.walkTrigger_shows _ _)
  refine Shows.trans ?_ (State.emit_shows _ _)
  split
  · exact ((s.setSelector_writeStateWord_shows _).trans (State.raise_shows _ _)).trans
      (State.setStranded_shows _ _)
  · exact (s.setSelector_writeStateWord_shows _).trans (State.raise_shows _ _)

theorem State.fromFibre_shows : Shows s s.fromFibre := by
  unfold State.fromFibre
  split
  · exact .refl s
  · split
    · exact s.changeCarrier_shows _ _
    · exact .refl s

theorem State.switchTest_shows (x : Radio) (b : Bool) : Shows s (s.switchTest x b) := by
  unfold State.switchTest
  split
  · split
    · split
      · exact s.changeCarrier_shows _ _
      · exact s.setSelector_shows rfl rfl rfl
    · exact .refl s
  · exact s.setSelector_shows rfl rfl rfl

theorem State.fromRadio_shows (x : Radio) (b : Bool) : Shows s (s.fromRadio x b) := by
  unfold State.fromRadio
  split
  · exact s.changeCarrier_shows _ _
  · split
    · exact s.switchTest_shows _ _
    · split
      · exact s.changeCarrier_shows _ _
      · split
        · exact s.changeCarrier_shows _ _
        · exact .refl s

theorem State.carrierProcedure_shows (b : Bool) : Shows s (s.carrierProcedure b) := by
  unfold State.carrierProcedure
  split
  · exact .refl s
  · split
    · exact s.fromFibre_shows
    · exact s.fromRadio_shows _ _

theorem State.testStranded_shows : Shows s s.testStranded := by
  unfold State.testStranded
  split
  · exact .refl s
  · exact s.setStranded_shows _

theorem State.emitAll_shows (l : List Radio) : ∀ s : State, Shows s (l.foldl (fun t r => t.emit (.autoWarm r)) s) := by
  induction l with
  | nil => exact fun s => .refl s
  | cons r t ih => exact fun s => (s.emit_shows _).trans (ih _)

theorem State.evaluate_shows (b : Bool) : Shows s (s.evaluate b) :=
  ((s.carrierProcedure_shows b).trans (State.testStranded_shows _)).trans (State.emitAll_shows _ _)

theorem State.usabilityAtSelector_shows (u : Uplink) (b : Bool) : Shows s (s.usabilityAtSelector u b) := by
  unfold State.usabilityAtSelector
  split
  · exact (s.setSelector_shows (x := { s.selector with fibreSince := if b then some s.now else none }) rfl rfl rfl).trans
      (State.evaluate_shows _ _)
  · exact s.evaluate_shows _
  · exact s.evaluate_shows _

theorem State.deliver_shows (d : Delivery) : Shows s (s.deliver d) := by
  cases d with
  | evaluate => exact s.evaluate_shows _
  | usability u b => exact s.usabilityAtSelector_shows _ _
  | carrierMoved => exact (s.retest_shows _).trans (State.retest_shows _ _)
  | countCrossed r => exact s.retest_shows _
  | autoWarm r => exact s.askWarm_shows _ _

/-- Settling keeps the word shown. -/
theorem State.settle_shows (n : Nat) (s : State) : Shows s (State.settle n s) := fun h =>
  State.settle_keeps (P := fun t => t.calm ∧ t.shown) (fun _ _ h => h) (fun s d h => s.deliver_shows d h) n s h

end Sys2Proof.Machine
end

