-- ==== Sys2Proof/WellFormed.lean ====
section
/-! DEFINITION. Which commands can come from outside: the operands that a row's own words rule out. A meaning is given to
every term all the same; these checks say which terms stand for something the outside can do. -/

namespace Sys2Proof

/-- Host memory is a 64-bit address space (R124, R161): every byte the host wrote lies in it. -/
def Moment.wellFormed (m : Moment) : Bool := m.hostWrites.all (fun c => c.1 < 2 ^ 64)

/-- CONTROL bit 0, RUN, of a written word (R183). -/
def controlRun (w : Word) : Bool := w.getLsbD 0

/-- CONTROL bit 6, DEVICE_RESET, of a written word (R183). -/
def controlReset (w : Word) : Bool := w.getLsbD 6

/-- The operands' own conditions. EXCHANGE_START writes RUN 1 and EXCHANGE_STOP writes RUN 0, neither with DEVICE_RESET;
DEVICE_RESET writes its bit; the two other CONTROL rows do not (R161). A CANCEL names a slot in one body word and any value may stand there (R170). -/
def Instr.operandsOk : Instr → Bool
  | .exchangeStart _ w => controlRun w && !controlReset w
  | .exchangeStop _ w => !controlRun w && !controlReset w
  | .deviceReset _ w => controlReset w
  | .sweepIntervalSet _ w => !controlReset w
  | .interruptEnableSet _ w => !controlReset w
  | .passthroughFrame _ _ frame => decide (0 < frame.length)
  | .upstreamFrame _ frame => decide (0 < frame.length)
  | .radioFrameReceived _ _ frame => decide (0 < frame.length)
  | .fibreFrameReceived _ frame => decide (0 < frame.length)
  | .powerOn _ | .loadBlockRead _ _ | .linkUp _ _ | .linkDown _ _ | .partExpiry _ _ _ _ | .rawLevelChange _ _ _
  | .pendingChangeDue _ _ | .warmMinRunout _ _ | .attachLimitRunout _ _ | .retryWaitRunout _ _ | .coolHoldRunout _ _
  | .probeTimerRunout _ _ | .burstProbeDue _ _ | .probeExpiry _ _ _ | .decayTimerRunout _ _
  | .evaluationTimerRunout _ | .holdLimitRunout _ | .ageingTimerRunout _ | .walkVisit _ | .flowCopyStep _
  | .refreshTimerRunout _ | .sweepTimerRunout _ | .sweepSlot _ | .dispatch _ | .causeClear _ _ | .nudge _ _
  | .registerWrite _ _ _ | .pcieLinkReset _ | .status _ _ | .snapshot _ _ | .enterHold _ _ _ | .leaveHold _ _
  | .setCarrier _ _ _ | .setUplink _ _ _ | .setSelector _ _ _ | .setClass _ _ _ _ | .setRule _ _ _ _ | .pin _ _ _ _
  | .readFlows _ _ _ _ _ | .probeBurst _ _ _ _ | .radioPowerWarm _ _ _ | .radioPowerOff _ _ _
  | .setRadioTimers _ _ _ _ | .setAllowance _ _ _ _ | .openPeriod _ _ _ | .setRemaining _ _ _ _ | .setLead _ _ _
  | .setWatch _ _ _ | .store _ _ | .storeBlockWritten _ | .supplyFault _ | .cancel _ _ _ | .powerLoss _ => true

/-- A command is well formed when its moment and its operands are. -/
def Instr.wellFormed (i : Instr) : Bool := i.moment.wellFormed && i.operandsOk

end Sys2Proof
end

