-- ==== Sys2Proof/Tests/Slice0.lean ====
section
/-! SUPPORT. Tests: what well-formedness refuses, values from the manual's own tables and worked sequences, single steps on small
states, and for each statement a state and operands that meet its hypotheses, clause by clause. -/

namespace Sys2Proof.Tests

-- One theorem at a time: tests that wait on the kernel together would each hold a thread.
set_option Elab.async false

open Sys2Proof.Machine

/-! ## Small states -/

/-- A moment at which no time has passed and nothing fails. -/
def at0 : Moment := ⟨0, [], none, true⟩

/-- A moment after so many milliseconds. -/
def after (ms : Nat) : Moment := ⟨ms * 1000, [], none, true⟩

/-- A steering part with every link UP. -/
def on : State := { State.reset with phase := .steering, links := .all true }

def homeA : Address := 0x0A000001 <<< 96
def homeB : Address := 0x0A000002 <<< 96

/-- An IPv4 record whose local address is 10.0.0.1. -/
def rec4 : AddressRecord := ⟨.v4, homeA, 5060, homeB, 40000, 7⟩

/-- Every uplink has a record. -/
def probed : State := { on with cfg := { on.cfg with records := .all (some rec4) } }

/-- The exchange runs with its area at 0, and slot 1 reads TAKEN. -/
def running : State := { probed with regs := ⟨1, 0, 0, 0⟩, memory := [(0x180, 2)] }

def heldMode : State := { running with selector := { running.selector with mode := .hold } }

def k1 : Ticket := ⟨1, 7⟩

/-- Fibre is usable. -/
def lit (s : State) : State := { s with judges := { s.judges with fibre := { s.judges.fibre with verdict := .good, usable := true } } }

/-- The state with a radio's record, judgement or prober put in place. -/
def withRadio (s : State) (r : Radio) (x : RadioUnit) : State := s.setRadio r x

def standby : RadioUnit := { RadioUnit.reset with state := .standby, poweredAt := some 0 }
def warming : RadioUnit := { RadioUnit.reset with state := .warming, poweredAt := some 0, warmMin := some 0, attachLimit := some 0 }

/-- A UDP flow from 10.0.0.1 port 40000 to 10.0.0.2 port 5060, DSCP 46. -/
def key4 : FlowKey := ⟨.v4, homeA, homeB, 17, 40000, 5060⟩

/-- The body of its smallest frame. -/
def body4 : List Byte :=
  beBytes 12 77 ++ beBytes 2 0x0800 ++ [0x45, 0xB8] ++ beBytes 2 46 ++ [0, 0, 0x40, 0, 64, 17, 0, 0] ++ beBytes 4 0x0A000001 ++
    beBytes 4 0x0A000002 ++ beBytes 2 40000 ++ beBytes 2 5060 ++ List.replicate 22 0

def frame4 : List Byte := withFcs body4

/-- A frame that is not IP. -/
def arp : List Byte := withFcs (beBytes 12 77 ++ beBytes 2 0x0806 ++ List.replicate 46 0)

def entry (c : TrafficClass) (a : Option Uplink) : FlowEntry :=
  ⟨key4, c, a, if a = none then .shed else .settled, none, 0, 0, 0, 0, 0⟩

/-- A table of one entry at index 0. -/
def table (e : FlowEntry) : FlowTable := { FlowTable.reset with entries := [(0, e)], counts := FlowTable.reset.counts.inc e.assigned }

def flow (s : State) (c : TrafficClass) (a : Option Uplink) : State := { s with flows := table (entry c a) }

/-- What a command answers, for tests on one step. -/
def nextOf (o : Host.Outcome State Fault Refusal) : State :=
  match o with
  | .next t => t
  | .fault _ => State.reset
  | .refused _ => State.reset

theorem undrained_of {s : State} (a : (s.radio .a).draining = false) (b : (s.radio .b).draining = false) : s.undrained :=
  fun r => by cases r <;> assumption

theorem undisturbed_running : Undisturbed running at0 := ⟨rfl, rfl, by decide +kernel, rfl⟩

/-- So many notices are unread in the log. -/
def logAt (s : State) (unread : BitVec 16) : State := { s with exchange := { s.exchange with writeCount := unread } }

/-! ## Well-formedness (R124, R161, R183) -/

theorem test_wf_accepts : (Instr.exchangeStart ⟨0, [(2 ^ 64 - 1, 3)], none, true⟩ 1).wellFormed = true := by decide
theorem test_wf_host_write : (Instr.walkVisit ⟨0, [(2 ^ 64, 3)], none, true⟩).wellFormed = false := by decide
theorem test_wf_start_needs_run : (Instr.exchangeStart at0 2).wellFormed = false := by decide
theorem test_wf_start_no_reset : (Instr.exchangeStart at0 0x41).wellFormed = false := by decide
theorem test_wf_stop_no_run : (Instr.exchangeStop at0 1).wellFormed = false := by decide
theorem test_wf_stop_no_reset : (Instr.exchangeStop at0 0x40).wellFormed = false := by decide
theorem test_wf_reset_bit : (Instr.deviceReset at0 1).wellFormed = false := by decide
theorem test_wf_sweep_no_reset : (Instr.sweepIntervalSet at0 0x41).wellFormed = false := by decide
theorem test_wf_enable_no_reset : (Instr.interruptEnableSet at0 0x41).wellFormed = false := by decide
theorem test_wf_frames_not_empty : ((Instr.passthroughFrame at0 .lan []).wellFormed || (Instr.upstreamFrame at0 []).wellFormed ||
    (Instr.radioFrameReceived at0 .a []).wellFormed || (Instr.fibreFrameReceived at0 []).wellFormed) = false := by decide

/-- The table gives no row any bits, so no word spells a command. -/
theorem test_no_word_spells_a_command : decodeTableWord 32 0 = none ∧ on.withFetchWord 32 0 = on := ⟨rfl, rfl⟩

/-! ## Values from the manual's tables and worked sequences -/

/-- The check value of CRC-32 for the nine digits, from IEEE 802.3's own parameters (log entry 12). -/
theorem test_crc32_check_value : crc32 [0x31, 0x32, 0x33, 0x34, 0x35, 0x36, 0x37, 0x38, 0x39] = 0xCBF43926 := by decide +kernel

/-- Section 1.4: a 1514-byte inner frame on a link limit of 1400 with an IPv6 outer header. -/
theorem test_split_lengths : (framePieces .v6 1400 (List.replicate 1514 0)).map (fun p => (p.1, p.2.length)) = [(1, 1336), (2, 178)] ∧
    onAirLength .v6 1400 1514 = 1642 ∧ onAirLength .v6 1400 94 = 158 := by decide +kernel

/-- Section 1.6: the list of RADIO_A from 1000 to 1010. -/
theorem test_reassembly_joins :
    let f1 := (RadioFramer.reset.takePart ⟨500, .second, [2], 1000⟩).1
    let f2 := (f1.takePart ⟨501, .first, [1], 1003⟩).1
    let f3 := (f2.takePart ⟨500, .second, [2], 1004⟩).1
    let f4 := f3.takePart ⟨500, .first, List.replicate 14 1, 1010⟩
    f3.held.length = 2 ∧ f3.reassemblyDiscards = 1 ∧ f4.2 = some (List.replicate 14 1 ++ [2]) ∧ f4.1.held.length = 1 := by
  decide +kernel

/-- Section 2.4 (R29): the tier by C0 and C1. -/
theorem test_power_tiers :
    tierOfLevels { PerInput.all false with batteryLow := true } = .reserve ∧ tierOfLevels (.all false) = .battery ∧
    tierOfLevels (.all true) = .mains := by decide

/-- Section 5.3: the first ten outcomes of the worked sequence of RADIO_A. -/
def outcomes53 : Judgement :=
  [(ProbeResult.answered, 120000), (.answered, 128000), (.lost, 0), (.answered, 113000), (.answered, 120000), (.answered, 136000),
    (.answered, 122000), (.answered, 130000), (.answered, 123000), (.answered, 400000)].foldl (fun j x => j.observe x.1 x.2)
    Judgement.reset

theorem test_smoothed_delay_and_merit : outcomes53.srtt = some 157625 ∧ outcomes53.runAnswered = 7 ∧ lostIn outcomes53.window = 1 ∧
    outcomes53.meritStage (Settings.factoryJudge .radioA) = some 730 := by decide +kernel

theorem test_good_turns_poor : { outcomes53 with verdict := .good }.verdictStage (Settings.factoryJudge .radioA) true = .to .poor := by
  decide +kernel

/-- Section 5.5: the two decays of the worked sequence, and the addition's limit. -/
theorem test_penalty : penaltyDecay 3500 753 = 3460 ∧ penaltyDecay 3460 753 = 3421 ∧ penaltyDecay 1 753 = 0 ∧
    penaltyAdd 2500 = 3500 ∧ penaltyAdd 15500 = 16000 := by decide

/-- Section 5.9: the delay and loss terms of the two radios. -/
theorem test_merit_terms : 1000 - lossTerm 4 32 - delayTerm (some 180000) 150000 = 685 ∧
    1000 - lossTerm 1 32 - delayTerm (some 90000) 150000 = 862 ∧ delayTerm (some 300000) 150000 = 400 := by decide

/-- Section 7.3: the factory rules on two of the worked flows, and a source port that matches nothing. -/
theorem test_classification :
    classify Settings.factoryRules ⟨.v4, homeA, homeB, 17, 5062, 5060⟩ 0 = (.voice, none) ∧
    classify Settings.factoryRules ⟨.v4, homeA, homeB, 17, 40000, 40002⟩ 46 = (.voice, none) ∧
    classify Settings.factoryRules ⟨.v4, homeA, homeB, 17, 5060, 10000⟩ 0 = (.standard, none) := by decide

/-- Section 7.4: of the entries that tie, the lower index; VOICE and pinned entries are no victims. -/
theorem test_victim :
    (victimOf 2000 [(17, { entry .standard none with lastSeen := 1200 }), (402, { entry .bulk none with lastSeen := 1200 }),
      (600, { entry .voice none with lastSeen := 900 }), (811, { entry .interactive none with lastSeen := 1000, pin := some .fibre })]).map
      (·.1) = some 17 := by decide +kernel

/-- Section 9.2: the worked case of a small allowance. -/
theorem test_meter : (Meter.deduct ⟨800, 9200, 0, .normal⟩ 1400) = ⟨0, 10600, 600, .normal⟩ ∧ tierOf ⟨10000, 20, 4⟩ 800 = .normal ∧
    tierOf ⟨10000, 20, 4⟩ 0 = .spent ∧ tierOf ⟨10000, 20, 4⟩ 700 = .lean ∧ mark 20000000000 64 = 5000000000 ∧
    tierOf ⟨20000000000, 64, 8⟩ 624999700 = .scarce := by decide

/-- Section 9.7: frames 1 and 3 of the worked case. -/
theorem test_policer :
    let b := (Bucket.credit ⟨10000, 0, 0⟩ 3 6000 128000).judge 1558
    b.2 = true ∧ b.1.tokens = 15536 ∧ (Bucket.judge ⟨3072, 3, 0⟩ 1558).2 = false ∧
    (Bucket.credit ⟨3072, 3, 1⟩ 8 1500 128000).tokens = 10572 := by decide

/-- A stated length up to the end of the FCS stands; one past it is brought to what the frame holds less its FCS (R148). -/
theorem test_received_length :
    let ip := fun n : Byte => [0x45, 0, 0, n] ++ List.replicate 16 (0 : Byte)
    receivedLength .v4 (ip 24) = 24 ∧ receivedLength .v4 (ip 25) = 20 ∧ receivedLength .v4 (ip 18) = 18 ∧
    receivedLength .v4 [0x45, 0, 9] = 3 := by decide

/-- Section 12.2 (R183): the offsets as its table writes them, no register between or after them, and a write at 0x10. -/
theorem test_register_window :
    [0x00, 0x04, 0x08, 0x0C, 0x10, 0x14].map registerAt =
      [some .ident, some .control, some .cause, some .nudge, some .areaLow, some .areaHigh] ∧
    [0x01, 0x02, 0x18].map registerAt = [none, none, none] ∧
    [RegisterName.ident, .control, .cause, .nudge, .areaLow, .areaHigh].map registerOffset = [0x00, 0x04, 0x08, 0x0C, 0x10, 0x14] ∧
    on.readWindow 0x00 = some 0x22400001 ∧ (on.writeWindow 0x10 0x12345FFF).readWindow 0x10 = some 0x12345000 := by decide

/-- Section 12.1: IDENT, and the interrupt line with ANSWER enabled. -/
theorem test_registers : State.reset.readRegister .ident = 0x22400001 ∧ (⟨0x7, 0x1, 0, 0⟩ : Registers).interruptLine = true ∧
    (⟨0x7, 0x2, 0, 0⟩ : Registers).interruptLine = false := by decide

/-- Section 12.6: a carry header as its bytes and back. -/
theorem test_carry_header :
    let h : CarryHeader := ⟨1, kindProbe, 2, 0, 0, 0x01020304, 0xA0B0C0D0, 0x1122, 0x3344⟩
    h.bytes = [0x12, 2, 0, 0, 1, 2, 3, 4, 0xA0, 0xB0, 0xC0, 0xD0, 0x11, 0x22, 0x33, 0x44] ∧ readCarryHeader h.bytes = h := by decide

/-! ## Single steps -/

/-- R179: the timers of a part that begins steering with nothing stored. -/
theorem test_load_empty :
    let t := nextOf (exec (.loadBlockRead at0 .clean) State.reset)
    t.phase = .steering ∧ t.store.report.result = .defaultsEmpty ∧ t.flows.ageing = some 1000 ∧ (t.radio .a).state = .warming := by
  decide +kernel

/-- R163: the header of a started exchange. -/
theorem test_exchange_start :
    let t := nextOf (exec (.exchangeStart at0 0x0A03) { on with conditions := { on.conditions with powerTier := .mains } })
    t.running = true ∧ readBytes t.memory 4 2 = [1, 0] ∧ t.exchange.sweepTimer = some 10 ∧ t.exchange.sweepAt = some 0 := by
  decide +kernel

/-- R103 and section 6.9: ENTER_HOLD(600) from STEERING. -/
theorem test_enter_hold :
    let t := nextOf (exec (.enterHold at0 k1 600) running)
    t.selector.mode = .hold ∧ t.token 1 = tokenAnswered ∧ t.memoryWord (0x180 + 16) = 1 ∧ t.memoryWord (0x180 + 20) = 600000 := by
  decide +kernel

/-- R105 and section 6.9: SET_SELECTOR in STEERING. -/
theorem test_set_selector_wrong_mode : readByte (nextOf (exec (.setSelector at0 k1 ⟨60, 100, 3⟩) running)).memory 0x182 = 3 := by
  decide +kernel

/-- R43 and section 3.9: OFF of a carrier with no other usable uplink. -/
theorem test_radio_power_off_in_use :
    readByte (nextOf (exec (.radioPowerOff at0 k1 1) { withRadio running .a { standby with state := .carrying } with
      selector := { running.selector with carrier := .radioA } })).memory 0x182 = 6 := by decide +kernel

/-- R180: a second STORE. -/
theorem test_store_busy :
    readByte (nextOf (exec (.store at0 k1) (nextOf (exec (.store at0 ⟨2, 0⟩) running)))).memory 0x182 = 2 := by decide +kernel

/-! ## Witnesses: states that meet the hypotheses of the statements -/

theorem witness_StepTakesTheFrontCommand : { on with pending := [.walkVisit at0] }.pending = .walkVisit at0 :: [] ∧ on.pending = [] :=
  ⟨rfl, rfl⟩

theorem witness_PowerAndResetRestartThePart : on.phase = .steering ∧ (0x40 : Word).getLsbD 6 = true := by decide

theorem witness_LoadBlockReadGoesOnOrEndsTheLoad :
    let i := imageOf Settings.factory ⟨0, 0⟩
    let s : State := { State.reset with store := { SettingsStore.reset with image := some i } }
    State.reset.phase = .loading ⟨true, 0, 0, 0⟩ ∧ State.reset.store.image = none ∧ s.store.image = some i ∧ s.deliveries = [] ∧
    (126 + 1 < 128 ∧ 128 ≤ 127 + 1) := ⟨rfl, rfl, rfl, rfl, by decide⟩

/-- The starts: the reset state meets what they ask for; with both ports of the radios DOWN, unprobed fibre dark, and RESERVE with two radios
of WARM policy and equal biases. -/
theorem witness_LoadBlockReadGoesOnOrEndsTheLoad_starts :
    let z := State.reset.begin at0
    let c := { Settings.factory with timers := .all (Settings.factoryTimers .a), judges := .all (Settings.factoryJudge .radioA) }
    (z.decisionsHold ∧ z.RadiosHold ∧ ∀ r, (z.radio r).retryWait = none) ∧ (∀ r : Radio, z.links.get r.port = false) ∧
    z.links.f = false ∧ Settings.factory.records.get .fibre = none ∧ tierOfLevels (.all false) ≠ .reserve ∧
    (Settings.factory.timers.get .a).policy = .warm ∧ (Settings.factory.timers.get .b).policy = .cold ∧
    tierOfLevels { PerInput.all false with batteryLow := true } = .reserve ∧ (∀ r, (c.timers.get r).policy = .warm) ∧
    (c.judges.get .radioB).bias = (c.judges.get .radioA).bias ∧ z.selector.carrier = .fibre :=
  ⟨⟨⟨fun u => by cases u <;> rfl, fun _ u => by cases u <;> rfl⟩, ⟨fun r _ => by cases r <;> exact ⟨rfl, by decide, rfl, rfl⟩,
      fun h => (nomatch h), fun _ => ⟨rfl, fun r => by cases r <;> rfl⟩, fun r => .inr fun h => by cases r <;> exact (nomatch h),
      fun r => .inr fun h => by cases r <;> exact (nomatch h)⟩, fun r => by cases r <;> rfl⟩, fun r => by cases r <;> rfl, rfl, rfl, by decide,
    rfl, rfl, by decide, fun r => by cases r <;> rfl, rfl, rfl⟩

/-- R50 on them: with fibre lit RADIO_A alone warms; in RESERVE with two radios of WARM policy the preferred one, with no light and so a
FAILED fibre. -/
theorem test_starting_warms :
    let lastBlock := fun s : State => nextOf (exec (.loadBlockRead at0 .clean) { s with phase := .loading ⟨true, 127, 0, 0⟩ })
    let c := { Settings.factory with timers := .all (Settings.factoryTimers .a), judges := .all (Settings.factoryJudge .radioA) }
    let a := lastBlock { State.reset with links := .all true }
    let b := lastBlock { State.reset with
      store := { SettingsStore.reset with image := some (imageOf c ⟨0, 0⟩) }
      conditions := { Conditions.reset with raw := { PerInput.all false with batteryLow := true } } }
    ((a.radio .a).state = .warming ∧ (a.radio .b).state = .off ∧ a.usable .fibre = true) ∧
    (b.radio .a).state = .warming ∧ (b.radio .b).state = .off ∧ (∀ u, (b.judge u).verdict = .failed ∧ (b.judge u).penalty = 0) :=
  ⟨by decide +kernel, by decide +kernel, by decide +kernel, fun u => by cases u <;> decide +kernel⟩

theorem witness_PassthroughBridgesLanAndFibre : { State.reset with links := .all true }.phase = .loading ⟨true, 0, 0, 0⟩ ∧
    (∀ o, { State.reset with links := .all true }.links.get o = true) ∧ State.reset.deliveries = [] ∧ fcsRight frame4 = true ∧
    frame4.length ≤ 1518 := ⟨rfl, fun o => by cases o <;> rfl, rfl, by decide +kernel, by decide +kernel⟩

theorem witness_LinkEventsReachTheJudge : probed.phase ≠ .unpowered ∧ State.reset.phase ≠ .steering ∧ State.reset.deliveries = [] ∧
    probed.phase = .steering ∧ (∀ u : Uplink, probed.links.get u.port = true) ∧ (probed.cfg.records.get .fibre).isSome = true ∧
    probed.undrained :=
  ⟨by decide, by decide, rfl, rfl, fun u => by cases u <;> rfl, rfl, undrained_of rfl rfl⟩

/-- Fibre GOOD with a penalty that one more failure takes to the suppress level: the failure suppresses it (R82). -/
theorem witness_LinkEventsReachTheJudge_notices :
    let j : Judgement := { Judgement.reset with verdict := .good, penalty := 2000, decayTimer := some 900, usable := true }
    let s := running.setJudge .fibre j
    Undisturbed s at0 ∧ (s.judge .fibre).verdict ≠ .failed ∧ ((logAt s 126).begin at0).unread = 126 ∧
    ((nextOf (exec (.linkDown at0 .f) s)).judge .fibre).suppressed ≠ (s.judge .fibre).suppressed :=
  ⟨⟨rfl, rfl, by decide +kernel, rfl⟩, by decide, by decide +kernel, by decide +kernel⟩

/-- Unprobed fibre: its link goes DOWN from GOOD at a penalty that one more failure takes to the suppress level, and comes UP (R81). -/
theorem witness_LinkEventsReachTheJudge_unprobed :
    let j : Judgement := { Judgement.reset with verdict := .good, penalty := 2000, decayTimer := some 900, usable := true }
    let s := { running.setJudge .fibre j with cfg := { running.cfg with records := running.cfg.records.set .fibre none } }
    let d := { running with links := { running.links with f := false }, cfg := s.cfg }
    s.links.f = !false ∧ d.links.f = !true ∧ s.cfg.records.get .fibre = none ∧ s.undrained ∧ d.undrained ∧ Undisturbed s at0 ∧
    ((logAt s 126).begin at0).unread < 127 ∧ (d.judge .fibre).verdict = .unknown ∧
    ((nextOf (exec (.linkDown at0 .f) s)).judge .fibre).verdict = .failed ∧
    ((nextOf (exec (.linkDown at0 .f) s)).judge .fibre).suppressed = true ∧
    ((nextOf (exec (.linkUp at0 .f) d)).judge .fibre).verdict = .good :=
  ⟨rfl, rfl, rfl, undrained_of rfl rfl, undrained_of rfl rfl, ⟨rfl, rfl, by decide +kernel, rfl⟩, by decide +kernel, rfl,
    by decide +kernel, by decide +kernel, by decide +kernel⟩

/-- s with a burst x of uplink u whose request waits in slot 2, and these entries outstanding; slots 1 and 2 read TAKEN. -/
def bursting (s : State) (u : Uplink) (x : Burst) (list : List Outstanding) : State :=
  { s.setProber u { s.prober u with burst := some x, outstanding := list } with
    memory := [(0x180, 2), (0x200, 2)], exchange := { s.exchange with inFlight := [⟨.burst u, 2, 7, true⟩] } }

theorem test_frame4 : fcsRight frame4 = true ∧ frame4.length = 64 ∧ keyOf (lessFcs frame4) = some key4 ∧
    etherVersion (lessFcs frame4) = some .v4 := by decide +kernel

theorem witness_UpstreamFrameOfALiveFlow : on.phase = .steering ∧ on.links.lan = true ∧ on.deliveries = [] ∧ fcsRight [] = false ∧
    (∀ a : Option Uplink, entryOfKey (flow on .voice a).flows.entries key4 = some (0, entry .voice a) ∧
      (entry .voice a).assigned = a) ∧ on.links.f = true ∧ { on with links := ⟨true, false, true, true⟩ }.links.f = false ∧
    { on with links := ⟨true, true, false, true⟩ }.links.get Radio.a.port = false ∧ on.cfg.records.get Radio.a.uplink = none :=
  ⟨rfl, rfl, rfl, rfl, fun a => by rcases a with _ | _ | _ | _ <;> exact ⟨by decide +kernel, rfl⟩, rfl, rfl, rfl, rfl⟩

/-- `n` entries of one class, one for each source port, none of them pinned. -/
def tableOf (n : Nat) (c : TrafficClass) : FlowTable :=
  { FlowTable.reset with
    entries := (List.range n).map (fun i => (i, { entry c (some .fibre) with key := { key4 with srcPort := BitVec.ofNat 16 i } }))
    counts := ⟨n, 0, 0, 0⟩ }

theorem tableOf_entry {n : Nat} {c : TrafficClass} {p : Nat × FlowEntry} (h : p ∈ (tableOf n c).entries) : p.1 < n ∧
    p.2 = { entry c (some .fibre) with key := { key4 with srcPort := BitVec.ofNat 16 p.1 } } := by
  obtain ⟨i, hi, rfl⟩ := List.mem_map.mp h
  exact ⟨List.mem_range.mp hi, rfl⟩

theorem tableOf_holds {n : Nat} (hn : n ≤ 1024) (c : TrafficClass) : (tableOf n c).Holds where
  rising := List.pairwise_map.mpr (List.pairwise_lt_range.imp (fun h => h))
  bound := fun p hp => Nat.lt_of_lt_of_le (tableOf_entry hp).1 hn
  keys := by
    unfold tableOf
    rw [List.map_map]
    refine List.pairwise_map.mpr (List.pairwise_lt_range.imp_of_mem fun hi hj h he => ?_)
    have := congrArg (fun k : FlowKey => k.srcPort.toNat) he
    simp only [Function.comp, BitVec.toNat_ofNat] at this
    have := List.mem_range.mp hi
    have := List.mem_range.mp hj
    omega
  counted := fun a => by
    unfold tableOf
    dsimp only
    rw [List.countP_map]
    match a with
    | some .fibre => rw [List.countP_eq_length.mpr fun _ _ => by rfl, List.length_range]; rfl
    | none => rw [List.countP_eq_zero.mpr fun _ _ => by simp [entry]]; rfl
    | some .radioA => rw [List.countP_eq_zero.mpr fun _ _ => by simp [entry]]; rfl
    | some .radioB => rw [List.countP_eq_zero.mpr fun _ _ => by simp [entry]]; rfl
  shed := fun p hp => by rw [(tableOf_entry hp).2]; simp [entry]

/-- Every entry was seen at 0, and index 0 holds one. -/
theorem tableOf_victim {n : Nat} (hn : 0 < n) (now : Word) : ∃ v, (0, v) ∈ (tableOf n .bulk).entries ∧
    ¬ (v.trafficClass = .voice ∨ v.pin.isSome = true) ∧
    ∀ q ∈ (tableOf n .bulk).entries, (now - q.2.lastSeen).toNat = (now - v.lastSeen).toNat ∧ 0 ≤ q.1 :=
  ⟨_, List.mem_map.mpr ⟨0, List.mem_range.mpr hn, rfl⟩, by simp [entry], fun q hq => by
    rw [(tableOf_entry hq).2]; exact ⟨rfl, Nat.zero_le _⟩⟩

theorem tableOf_length (n : Nat) (c : TrafficClass) : (tableOf n c).entries.length = n := by simp [tableOf]

/-- The flow of frame4 has a source port beyond them all. -/
theorem tableOf_free {n : Nat} (hn : n ≤ 1024) (c : TrafficClass) : entryOfKey (tableOf n c).entries key4 = none := by
  refine List.find?_eq_none.mpr fun p hp => ?_
  have h := tableOf_entry hp
  rw [h.2]
  simp only [beq_iff_eq]
  intro he
  have := congrArg (fun k : FlowKey => k.srcPort.toNat) he
  simp only [key4, BitVec.toNat_ofNat] at this
  have h40 : (40000 : BitVec 16).toNat = 40000 := rfl
  omega

/-- Room; a full table whose index 0 is the victim; one of VOICE alone, which refuses; and an ARP frame. -/
theorem witness_UpstreamFrameCreatesAnEntry :
    on.phase = .steering ∧ on.links.lan = true ∧ (fcsRight frame4 = true ∧ 64 ≤ frame4.length ∧ frame4.length ≤ 1518 ∧
      keyOf (lessFcs frame4) = some key4) ∧ entryOfKey on.flows.entries key4 = none ∧
    on.flows.entries.length < 1024 ∧ (on.place .voice none none).assigned = some .fibre ∧ on.links.f = true ∧ on.deliveries = [] ∧
    ((tableOf 1024 .bulk).Holds ∧ (tableOf 1024 .bulk).entries.length = 1024 ∧ entryOfKey (tableOf 1024 .bulk).entries key4 = none) ∧
    (∃ v, (0, v) ∈ (tableOf 1024 .bulk).entries ∧ ¬ (v.trafficClass = .voice ∨ v.pin.isSome = true) ∧
      ∀ q ∈ (tableOf 1024 .bulk).entries, ((on.begin at0).now - q.2.lastSeen).toNat = ((on.begin at0).now - v.lastSeen).toNat ∧ 0 ≤ q.1) ∧
    (∀ q ∈ (tableOf 1024 .voice).entries, q.2.trafficClass = .voice ∨ q.2.pin.isSome = true) ∧
    (tableOf 1024 .voice).counters.refusals = 0 ∧ on.running = false ∧ on.selector.carrier = .fibre ∧
    running.running = true ∧ memoryWf running.memory = true ∧ (running.begin at0).unread < 128 ∧
    (fcsRight arp = true ∧ 64 ≤ arp.length ∧ arp.length ≤ 1518 ∧ keyOf (lessFcs arp) = none) ∧
    { on.selector with carrier := .radioA }.carrier = Radio.a.uplink ∧ on.admits .standard .a = true ∧
    { on with conditions := { on.conditions with powerTier := .reserve } }.admits .standard .a = false ∧ on.cfg.records.get Radio.a.uplink = none :=
  ⟨rfl, rfl, by decide +kernel, rfl, by decide, by decide +kernel, rfl, rfl,
    ⟨tableOf_holds (Nat.le_refl _) _, tableOf_length _ _, tableOf_free (Nat.le_refl _) _⟩,
    tableOf_victim (by omega) _, fun q hq => by rw [(tableOf_entry hq).2]; exact .inl rfl,
    rfl, rfl, rfl, rfl, by decide, by decide +kernel, by decide +kernel, rfl, by decide +kernel, by decide +kernel, rfl⟩

/-- The flow of `frame4` meets factory rule 0 at the low end of its range, and rule 1 by its DSCP 46; one of an ICMP key in IPv6 meets no
factory rule. -/
theorem witness_UpstreamFrameCreatesAnEntry_rules :
    (∃ x y, on.cfg.rules[0]? = some (some x) ∧ x.protocol = .udp ∧ key4.protocol = 17 ∧ x.ports = some (key4.dstPort.toNat, 5061) ∧
      x.dscp = none ∧ x.dest = none ∧ on.cfg.rules[1]? = some (some y) ∧ y.dscp = some ((byteAt (lessFcs frame4) 15).toNat / 4)) ∧
    (∀ y ∈ on.cfg.rules, ∀ x, y = some x → x.matches ⟨.v6, homeA, homeB, 58, 0, 0⟩ 45 = false) ∧
    (tableOf 3 .bulk).Holds ∧ (tableOf 3 .bulk).entries.length < 1024 ∧ entryOfKey (tableOf 3 .bulk).entries key4 = none :=
  ⟨⟨_, _, rfl, rfl, rfl, rfl, rfl, rfl, rfl, by decide +kernel⟩, by decide, tableOf_holds (by decide) _, by decide, by decide +kernel⟩

/-- The body of a frame of 1318 bytes of the flow of `frame4`. -/
def longBody : List Byte := body4 ++ List.replicate 1254 0

theorem longBody_length : longBody.length = 1314 := by rw [longBody, List.length_append, List.length_replicate]; rfl

/-- A part with a VOICE flow on RADIO_A, an own ceiling for VOICE, and so many tokens in its bucket. -/
def policed (ceiling tokens : Nat) : State :=
  let s := flow probed .voice (some .radioA)
  { s with
    cfg := { s.cfg with classes := { s.cfg.classes with voice := { s.cfg.classes.voice with mode := .own, ownCeiling := ceiling } } }
    policer := { s.policer with buckets := { s.policer.buckets with voice := ⟨tokens, 0, 3⟩ } } }

/-- Whole with no ceiling; passed at exactly the tokens it takes (104 bytes on air) and dropped one bit below; and a frame to be split. -/
theorem witness_UpstreamFrameLeavesWrappedOnARadio :
    (∀ b ∈ [body4, longBody], fcsRight (withFcs b) = true ∧ 64 ≤ (withFcs b).length ∧ (withFcs b).length ≤ 1518 ∧
      keyOf (lessFcs (withFcs b)) = some key4) ∧
    (let s := policed 0 0;
      s.phase = .steering ∧ s.links.lan = true ∧ entryOfKey s.flows.entries key4 = some (0, entry .voice (some .radioA)) ∧
      s.links.get .ra = true ∧ s.cfg.records.get .radioA = some rec4 ∧
      (s.cfg.classes.get .voice).mode = .own ∧ (s.cfg.classes.get .voice).ownCeiling = 0 ∧
      (s.cfg.classes.get .bulk).mode = .follow ∧
      60 + overhead .v4 = 104 ∧ s.cfg.linkLimits.get .a = 1500) ∧
    ((policed 7 0).cfg.classes.get .voice).ownCeiling = 7 ∧ 8 * 104 = min (8 * ((policed 7 832).cfg.classes.get .voice).burst) (832 + 0 * 7) ∧
    min (8 * ((policed 7 831).cfg.classes.get .voice).burst) (831 + 0 * 7) < 8 * 104 ∧
    (let limited := { policed 0 0 with cfg := { (policed 0 0).cfg with linkLimits := .all 1280 } };
      limited.cfg.linkLimits.get .a = 1280 ∧ 1280 < (lessFcs (withFcs longBody)).length + overhead .v4) := by
  refine ⟨fun b hb => ⟨fcsRight_withFcs b, ?_⟩, by decide +kernel, by decide +kernel, by decide +kernel, by decide +kernel, rfl, by
    rw [lessFcs_withFcs, longBody_length]; decide⟩
  rw [withFcs_length, lessFcs_withFcs]
  rcases List.mem_pair.1 hb with rfl | rfl
  · decide +kernel
  · rw [longBody_length]; decide +kernel

/-- A carry header of the site, to a radio. -/
def carryTo (r : Radio) (kind part : Nat) : CarryHeader := ⟨1, kind, radioCode r, 0, part, 9, 0, 4, 5⟩

/-- The datagram of a concentrator that holds `rec4` the other way round. -/
def carriedTo (payload : List Byte) : List Byte :=
  outerDatagram { rec4 with localAddress := homeB, remoteAddress := homeA, localPort := 40000, remotePort := 5060 } 0 payload

/-- The frame around it, as a port receives it. -/
def carryFrame (payload : List Byte) : List Byte := withFcs (beBytes 12 77 ++ beBytes 2 0x0800 ++ carriedTo payload)

theorem carriedTo_checked (payload : List Byte) (h : payload = (carryTo .a 1 0).bytes ++ List.replicate 14 3 ∨
      payload = (carryTo .a 1 2).bytes ++ [1] ∨ payload = (carryTo .a 3 0).bytes ++ []) :
    Carries rec4 .v4 (carriedTo payload) payload ∧ Checksummed .v4 (carriedTo payload) payload := by
  rcases h with rfl | rfl | rfl <;> exact
    ⟨⟨rfl, by decide +kernel, by decide +kernel, by decide +kernel, by decide +kernel, by decide +kernel, by decide +kernel, by decide +kernel,
      by decide +kernel⟩, ⟨by decide +kernel, by decide +kernel, by decide +kernel⟩⟩

theorem carryTo_fits (kind part : Nat) (hk : kind < 16) (hp : part < 256) : (carryTo .a kind part).Fits :=
  ⟨Nat.le_of_ble_eq_true rfl, hk, Nat.le_of_ble_eq_true rfl, Nat.le_of_ble_eq_true rfl, hp⟩

/-- A list that holds a first part of sequence 9, and a full one of other sequences. -/
def holding (l : List HeldPart) : State := probed.setFramer .a { RadioFramer.reset with held := l }

/-- A bad frame, one that is not IP, one of no record, and frames that carry a whole frame, a part (its partner held, the list full or with
room, the part itself held) and an echo. -/
theorem witness_RadioDatagramIsDeductedBeforeItIsChecked : on.phase = .steering ∧ on.links.get .ra = true ∧ on.deliveries = [] ∧
    fcsRight [] = false ∧ fcsRight arp = true ∧ arp.length ≤ 1518 ∧ etherVersion (lessFcs arp) = none ∧
    etherVersion (lessFcs frame4) = some .v4 ∧ on.cfg.records.get .radioA = none ∧ probed.cfg.records.get .radioA = some rec4 ∧
    (∀ p ∈ [(carryTo .a 1 0).bytes ++ List.replicate 14 3, (carryTo .a 1 2).bytes ++ [1], (carryTo .a 3 0).bytes],
      fcsRight (carryFrame p) = true ∧ (carryFrame p).length ≤ 1518 ∧ etherVersion (lessFcs (carryFrame p)) = some .v4 ∧
      etherPayload (lessFcs (carryFrame p)) = carriedTo p) ∧
    (let same := fun y : HeldPart => y.sequence == 9 && y.part == .second;
      let partner := fun y : HeldPart => y.sequence == 9 && y.part != .second;
      let first : HeldPart := ⟨9, .first, List.replicate 13 3, 0⟩;
      ([first].any same = false ∧ [first].find? partner = some first ∧ first.inner.length + 1 = 14) ∧
      [HeldPart.mk 9 .second [] 0].any same = true ∧ ((holding []).framer .a).held.length < 4 ∧
      ([⟨1, .first, [], 0⟩, ⟨2, .first, [], 0⟩, ⟨3, .first, [], 0⟩, ⟨4, .first, [], 0⟩] : List HeldPart).any partner = false) := by
  decide +kernel

/-- A metered radio whose last bytes the datagram takes. -/
theorem witness_RadioDatagramIsDeductedBeforeItIsChecked_notice :
    let s := { running with
      cfg := { running.cfg with meters := .all ⟨5000, 128, 30⟩ }, meters := .all ⟨40, 0, 0, .scarce⟩ }
    Undisturbed s at0 ∧ ((logAt s 127).begin at0).unread < 128 ∧
    ((nextOf (exec (.radioFrameReceived at0 .a frame4) s)).meter .a).tier ≠ (s.meter .a).tier :=
  ⟨⟨rfl, rfl, by decide +kernel, rfl⟩, by decide +kernel, by decide +kernel⟩

/-- A bad frame, one that is no echo, and an echo, with an outstanding entry that it answers. -/
theorem witness_FibreFrameReachesTheLanUnchanged : probed.phase = .steering ∧ probed.links.f = true ∧ probed.deliveries = [] ∧
    fcsRight [] = false ∧ fcsRight frame4 = true ∧ frame4.length ≤ 1518 ∧ probed.fibreEcho (lessFcs frame4) = none ∧ probed.undrained ∧
    (let h : CarryHeader := ⟨1, 3, 0, 0, 0, 9, 0, 4, 5⟩;
      fcsRight (carryFrame h.bytes) = true ∧ (carryFrame h.bytes).length ≤ 1518 ∧ probed.EchoOnFibre (lessFcs (carryFrame h.bytes)) h ∧
      ((probed.setProber .fibre { probed.prober .fibre with outstanding := [⟨4, 5, 0, 0, false⟩] }).prober .fibre).entry 4 =
        some ⟨4, 5, 0, 0, false⟩) :=
  ⟨rfl, rfl, rfl, by decide +kernel, by decide +kernel, by decide, by decide +kernel, undrained_of rfl rfl, by decide +kernel, by decide +kernel,
    ⟨rec4, .v4, [], rfl, by decide +kernel,
      ⟨rfl, by decide +kernel, by decide +kernel, by decide +kernel, by decide +kernel, by decide +kernel, by decide +kernel, by decide +kernel,
        by decide +kernel⟩, ⟨by decide, by decide, by decide, by decide, by decide⟩, rfl, rfl, rfl, rfl⟩, rfl⟩

/-- The echo of the last marked entry of a burst, 700 µs after it was sent, ends the burst with DONE and the RTTs (R65). -/
theorem witness_FibreFrameReachesTheLanUnchanged_ends :
    let s := bursting running .fibre ⟨2, 2, none, 1, 0, 900, 900, false⟩ [⟨4, 5, 0, 1000, true⟩]
    let m : Moment := after 0
    let t := nextOf (exec (.fibreFrameReceived { m with elapsed := 700 } (carryFrame (CarryHeader.bytes ⟨1, 3, 0, 0, 0, 9, 0, 4, 5⟩))) s)
    s.undrained ∧ t.token 2 = tokenAnswered ∧ readByte t.memory 0x202 = 0 ∧ t.memoryWord 0x214 = 2 ∧ t.memoryWord 0x218 = 700 ∧
    t.memoryWord 0x21C = 800 :=
  ⟨undrained_of rfl rfl, by decide +kernel, by decide +kernel, by decide +kernel, by decide +kernel, by decide +kernel⟩

/-- A part that has waited 250 ms is due, and one that has waited 249 ms is not (R16). -/
theorem witness_HeldPartExpiresAfterItsTime :
    let s := on.setFramer .a { RadioFramer.reset with held := [⟨5, .first, [1], 0⟩] }
    s.phase = .steering ∧ s.deliveries = [] ∧
    (∃ h ∈ (s.framer .a).held, h.sequence = 5 ∧ h.part = .first ∧ ((s.begin (after 250)).now - (h.arrived + 250)).toNat < 2 ^ 31) ∧
    ¬ ∃ h ∈ (s.framer .a).held, h.sequence = 5 ∧ h.part = .first ∧ ((s.begin (after 249)).now - (h.arrived + 250)).toNat < 2 ^ 31 := by
  decide +kernel

theorem witness_RawLevelChangeStartsOrRemovesAPendingChange :
    let s := { on with conditions := { on.conditions with changes := { on.conditions.changes with aux := some 20 } } }
    let z := { on with cfg := { on.cfg with watch := ⟨0, 0, .all 0⟩ } }
    on.deliveries = [] ∧ on.conditions.raw.get .aux = false ∧ State.reset.phase ≠ .steering ∧ on.phase = .steering ∧
    on.conditions.changes.get .aux = none ∧ on.conditions.filtered.get .aux ≠ true ∧ 0 < on.cfg.watch.filters.get .aux ∧
    { s.conditions with raw := s.conditions.raw.set .aux true }.raw.get .aux ≠ false ∧ s.conditions.changes.get .aux = some 20 ∧
    s.conditions.filtered.get .aux = false ∧ z.cfg.watch.filters.get .aux = 0 := by decide

/-- Filter time 0 with a WARMING radio whose warm_min is met, a ready one that loses READY, one that READY finds OFF, fibre with a record and
without, and one line of two. -/
theorem witness_RawLevelChangeStartsOrRemovesAPendingChange_delivered :
    let z := { on with cfg := { on.cfg with watch := ⟨0, 0, .all 0⟩ } }
    let asserted := { on.conditions with filtered := .all true, raw := .all true }
    z.undrained ∧ (withRadio z .a { warming with warmMin := none }).readyLevel .a = false ∧
    ((withRadio z .a { warming with warmMin := none }).radio .a).warmMin = none ∧
    ((withRadio { z with conditions := asserted } .b standby).radio .b).state.ready = true ∧
    asserted.filtered.get .radioBReady ≠ false ∧ (z.radio .a).state ≠ .warming ∧ (probed.cfg.records.get .fibre).isSome = true ∧
    z.cfg.records.get .fibre = none ∧ asserted.filtered.lineBusy2 = true ∧ z.conditions.filtered.lineBusy2 = false :=
  ⟨undrained_of rfl rfl, rfl, rfl, rfl, by decide, by decide, rfl, rfl, rfl, rfl⟩

/-- A due time is reached at its own moment; mains is lost on a low battery with two radios that could be kept, of equal counts and biases. -/
theorem witness_PendingChangeReachesTheFilteredLevel :
    let c := on.conditions
    let t := { withRadio (withRadio on .a standby) .b standby with
      cfg := { on.cfg with judges := .all (on.cfg.judges.get .radioA) }
      conditions := { c with
        filtered := { c.filtered with mainsPresent := true, batteryLow := true }
        changes := { c.changes with mainsPresent := some 20 }, powerTier := .mains } }
    let s := { on with conditions := { on.conditions with changes := { on.conditions.changes with mainsPresent := some 20, aux := some 20 } } }
    s.phase = .steering ∧ s.conditions.changes.get .mainsPresent = some 20 ∧ s.conditions.changes.get .aux = some 20 ∧
    reached (s.begin (after 20)).now 20 = true ∧
    (t.phase = .steering ∧ t.conditions.changes.get .mainsPresent = some 20 ∧ reached (t.begin (after 20)).now 20 = true ∧
      t.conditions.powerTier ≠ .reserve ∧ (nextOf (exec (.pendingChangeDue (after 20) .mainsPresent) t)).conditions.powerTier = .reserve ∧
      (∀ r, (t.radio r).state ≠ .off ∧ (t.radio r).draining = false) ∧ t.selector.carrier ≠ .radioB ∧
      t.radioCount .b = t.radioCount .a ∧ t.bias .b = t.bias .a ∧ t.radioCount .b = 0) :=
  ⟨rfl, rfl, rfl, by decide +kernel, rfl, rfl, by decide +kernel, by decide, by decide +kernel, fun r => by cases r <;> decide, by decide, rfl,
    by decide +kernel, rfl⟩

/-- Mains is lost, with a watch that expects it: the tier changes and the watch is broken, with room for both notices. -/
theorem witness_PendingChangeReachesTheFilteredLevel_notices :
    let c := running.conditions
    let s := { running with
      cfg := { running.cfg with watch := { running.cfg.watch with mask := 1, pattern := 1 } }
      conditions := { c with
        filtered := { c.filtered with mainsPresent := true }, changes := { c.changes with mainsPresent := some 0 }, powerTier := .mains } }
    let t := nextOf (exec (.pendingChangeDue at0 .mainsPresent) s)
    Undisturbed s at0 ∧ s.undrained ∧ t.conditions.powerTier ≠ s.conditions.powerTier ∧ ((logAt s 126).begin at0).unread + 1 < 128 ∧
    s.conditions.conforming = true ∧ t.conditions.conforming = false :=
  ⟨⟨rfl, rfl, by decide +kernel, rfl⟩, undrained_of rfl rfl, by decide +kernel, by decide +kernel, rfl, by decide +kernel⟩

theorem witness_WarmMinRunoutLetsAReadyRadioIn :
    let s := withRadio on .a warming
    let t := { s with conditions := { s.conditions with filtered := { s.conditions.filtered with radioAReady := true } } }
    s.phase = .steering ∧ (s.radio .a).warmMin = some 0 ∧ reached (s.begin at0).now 0 = true ∧ s.readyLevel .a = false ∧
    s.deliveries = [] ∧ (t.radio .a).state = .warming ∧ t.readyLevel .a = true ∧ t.undrained :=
  ⟨rfl, rfl, by decide +kernel, rfl, rfl, rfl, rfl, undrained_of rfl rfl⟩

/-- A host WARM of RADIO_A waits, from slot 1. -/
def warmWaits (s : State) : State :=
  { withRadio s .a warming with exchange := { s.exchange with inFlight := [⟨.warm .a, k1.slot, k1.tag, true⟩] } }

theorem awaited_warmWaits : Awaited (warmWaits running) at0 .a ⟨.warm .a, k1.slot, k1.tag, true⟩ := ⟨rfl, rfl, by decide +kernel⟩

theorem witness_WarmMinRunoutLetsAReadyRadioIn_answered :
    let s := warmWaits running
    let t := { s with conditions := { s.conditions with filtered := { s.conditions.filtered with radioAReady := true } } }
    (t.radio .a).state = .warming ∧ (t.radio .a).warmMin = some 0 ∧ t.readyLevel .a = true ∧ t.undrained ∧ Undisturbed t at0 ∧
    ((logAt t 127).begin at0).unread < 128 ∧ Awaited t at0 .a ⟨.warm .a, k1.slot, k1.tag, true⟩ :=
  ⟨rfl, rfl, rfl, undrained_of rfl rfl, ⟨rfl, rfl, by decide +kernel, rfl⟩, by decide +kernel, ⟨rfl, rfl, by decide +kernel⟩⟩

theorem witness_AttachFailureEndsOrProlongsTheWarmUp :
    let s := withRadio on .a warming
    s.phase = .steering ∧ (s.radio .a).state = .warming ∧ (s.radio .a).attachLimit = some 0 ∧ reached (s.begin at0).now 0 = true ∧
    s.undrained ∧ s.radioCount .a = 0 ∧ s.selector.carrier ≠ .radioA ∧ 0 < (flow s .voice (some .radioA)).radioCount .a :=
  ⟨rfl, rfl, rfl, by decide +kernel, undrained_of rfl rfl, rfl, by decide, by decide⟩

/-- With and without a WARM that waits, of a verdict UNKNOWN and of another, and of a radio that still has an entry. -/
theorem witness_AttachFailureEndsOrProlongsTheWarmUp_notices :
    let s := warmWaits running
    let x := s.setJudge .radioA { Judgement.reset with verdict := .failed }
    let busy := flow s .voice (some .radioA)
    Undisturbed s at0 ∧ Awaited s at0 .a ⟨.warm .a, k1.slot, k1.tag, true⟩ ∧ (withRadio running .a warming).inFlightOf (.warm .a) = none ∧
    (s.judge .radioA).verdict = .unknown ∧ ((logAt s 126).begin at0).unread + 0 < 127 ∧ (x.judge .radioA).verdict ≠ .unknown ∧
    ((logAt x 125).begin at0).unread + 1 < 127 ∧ Undisturbed busy at0 ∧ 0 < busy.radioCount .a ∧
    Awaited busy at0 .a ⟨.warm .a, k1.slot, k1.tag, true⟩ ∧ (flow (withRadio running .a warming) .voice (some .radioA)).inFlightOf (.warm .a) = none :=
  ⟨⟨rfl, rfl, by decide +kernel, rfl⟩, awaited_warmWaits, rfl, rfl, by decide +kernel, by decide, by decide +kernel,
    ⟨rfl, rfl, by decide +kernel, rfl⟩, by decide, ⟨rfl, rfl, by decide +kernel⟩, rfl⟩

theorem witness_RetryWaitAndCoolHoldRunOut :
    let s := withRadio on .a { RadioUnit.reset with retryWait := some 0 }
    let c := withRadio (lit on) .a { standby with coolHold := some 0 }
    s.phase = .steering ∧ reached (s.begin at0).now 0 = true ∧ (s.radio .a).retryWait = some 0 ∧
    (withRadio on .b { RadioUnit.reset with retryWait := some 0 }).cfg.timers.b.policy = .cold ∧ s.deliveries = [] ∧
    (s.radio .a).state = .off ∧ (s.cfg.timers.get .a).policy = .warm ∧ s.limitRefuses .a = false ∧ s.undrained ∧
    (c.radio .a).coolHold = some 0 ∧ 0 < (flow c .voice (some .radioA)).radioCount .a ∧ (c.radio .a).state = .standby ∧
    c.radioCount .a = 0 ∧ c.selector.carrier = .fibre ∧ c.usable .fibre = true ∧ c.selector.stranded = false ∧ c.undrained ∧
    c.deliveries = [] :=
  ⟨rfl, by decide +kernel, rfl, rfl, rfl, rfl, rfl, by decide, undrained_of rfl rfl, rfl, by decide, rfl, rfl, rfl, rfl, rfl,
    undrained_of rfl rfl, rfl⟩

theorem witness_ProbeTimerRunoutSendsOneProbe :
    let s := probed.setProber .fibre { Prober.reset with timer := some 0 }
    s.phase = .steering ∧ (s.prober .fibre).timer = some 0 ∧ reached (s.begin at0).now 0 = true ∧ s.deliveries = [] ∧
    (on.setProber .fibre { Prober.reset with timer := some 0 }).eligible .fibre = false ∧ s.eligible .fibre = true ∧
    s.cfg.records.get .fibre = some rec4 ∧ (s.prober .fibre).outstanding.length < 8 := by decide +kernel

/-- A full list whose oldest entry belongs to a burst; a radio in STANDBY that is SPENT, and the same CARRYING; each interval of R54. -/
theorem witness_ProbeTimerRunoutSendsOneProbe_full :
    let list := (List.range 8).map (fun n => (⟨BitVec.ofNat 16 n, 5, 0, 800, n == 0⟩ : Outstanding))
    let s := probed.setProber .fibre
      { Prober.reset with timer := some 0, outstanding := list, burst := some ⟨3, 3, none, 1, 0, 900, 900, false⟩ }
    let spent := { withRadio probed .a standby with meters := .all ⟨0, 0, 0, .spent⟩ }
    let due := fun x : State => ((nextOf (exec (.probeTimerRunout at0 .radioA)
      (x.setProber .radioA { Prober.reset with timer := some 0 }))).prober .radioA).timer
    let good := fun p : PowerTier => ({ withRadio probed .a standby with conditions := { on.conditions with powerTier := p } }).setJudge
      .radioA { Judgement.reset with verdict := .good }
    (list = ⟨0, 5, 0, 800, true⟩ :: list.tail ∧ 7 ≤ list.tail.length) ∧ (s.prober .fibre).outstanding = list ∧ s.undrained ∧
    ((spent.radio .a).state = .standby ∧ (spent.meter .a).tier = .spent) ∧
    (due spent = some 1000 ∧ due (good .mains) = some 15000 ∧ due (good .battery) = some 30000 ∧ due (good .reserve) = some 60000) :=
  ⟨by decide +kernel, rfl, undrained_of rfl rfl, ⟨rfl, rfl⟩, by decide +kernel⟩

/-- The due time of a probe is compared in the microsecond count (R57). -/
theorem witness_ProbeExpiryCountsLost :
    let s := probed.setProber .fibre { Prober.reset with outstanding := [⟨9, 0, 0, 1000, false⟩] }
    s.phase = .steering ∧ s.deliveries = [] ∧ (s.prober .fibre).entry 8 = none ∧
    (s.prober .fibre).entry 9 = some ⟨9, 0, 0, 1000, false⟩ ∧ reached (s.begin at0).clock.micros 1000 = false ∧
    reached (s.begin (after 1)).clock.micros 1000 = true ∧ s.undrained :=
  ⟨rfl, rfl, by decide +kernel, by decide +kernel, by decide +kernel, by decide +kernel, undrained_of rfl rfl⟩

/-- The last marked entry of a burst whose count was brought to range is lost: CLAMPED, with the words of section 12.4 (R65). -/
theorem witness_ProbeExpiryCountsLost_ends :
    let x : Burst := ⟨3, 3, none, 1, 1, 900, 900, true⟩
    let s := bursting running .fibre x [⟨9, 0, 0, 1000, true⟩]
    let t := nextOf (exec (.probeExpiry (after 1) .fibre 9) s)
    s.phase = .steering ∧ s.deliveries = [] ∧ s.undrained ∧ s.running = true ∧ (s.begin (after 1)).access = none ∧
    memoryWf s.memory = true ∧ (s.begin (after 1)).token 2 = tokenTaken ∧ s.inFlightOf (.burst .fibre) = some ⟨.burst .fibre, 2, 7, true⟩ ∧
    (s.prober .fibre).entry 9 = some ⟨9, 0, 0, 1000, true⟩ ∧ reached (s.begin (after 1)).clock.micros 1000 = true ∧ x.nextDue = none ∧
    t.token 2 = tokenAnswered ∧ readByte t.memory 0x202 = 1 ∧ t.memoryWord 0x210 = 0x00030300 ∧ t.memoryWord 0x214 = 0x00020001 ∧
    t.memoryWord 0x218 = 900 ∧ t.memoryWord 0x21C = 900 :=
  ⟨rfl, rfl, undrained_of rfl rfl, rfl, rfl, by decide +kernel, by decide +kernel, rfl, by decide +kernel, by decide +kernel, rfl,
    by decide +kernel, by decide +kernel, by decide +kernel, by decide +kernel, by decide +kernel, by decide +kernel⟩

/-- A void and a held smoothed delay; an outcome that fails a record and one that does not, from a verdict that works and from UNKNOWN. -/
theorem witness_OutcomesMoveTheSmoothedDelayAndTheRuns : Judgement.reset.srtt = none ∧ outcomes53.srtt = some 157625 ∧
    (min 157632 2000000 < 157625 + 8 ∧ 157625 < min 157632 2000000 + 8) ∧
    (let p := on.cfg.judges.get .radioA;
      let j : Judgement := { Judgement.reset with verdict := .good, runLost := 3, window := List.replicate 3 .lost };
      p.failRun ≤ (j.observe .lost 0).runLost ∧
      ¬ (p.failRun ≤ (j.observe .answered 0).runLost ∨ p.failLoss ≤ (j.observe .answered 0).window.countP (· == .lost)) ∧
      ((j.observe .answered 0).window.countP (· == .lost) ≤ p.goodLoss) ∧
      (let k : Judgement := { Judgement.reset with runAnswered := 5, srtt := some 9000 };
        p.recoverRun ≤ (k.observe .answered 9000).runAnswered ∧ (k.observe .answered 9000).srtt = some 9000 ∧ 9000 ≤ p.delayLimit * 1000)) := by
  decide +kernel

theorem witness_DecayLowersThePenalty :
    let s := on.setJudge .fibre { Judgement.reset with penalty := 3500, decayTimer := some 0, suppressed := true }
    s.phase = .steering ∧ (s.judge .fibre).decayTimer = some 0 ∧ reached (s.begin at0).now 0 = true ∧ s.deliveries = [] ∧
    (s.cfg.judges.get .fibre).reuse < 3500 - max 1 (3500 * (s.cfg.judges.get .fibre).decay / 65536) := by decide +kernel

/-- A decay to just the reuse level. -/
theorem witness_DecayLowersThePenalty_notice :
    let s := running.setJudge .fibre { Judgement.reset with penalty := 1, decayTimer := some 0, suppressed := true }
    (s.judge .fibre).suppressed = true ∧ 1 - max 1 (1 * (s.cfg.judges.get .fibre).decay / 65536) ≤ (s.cfg.judges.get .fibre).reuse ∧
    Undisturbed s at0 ∧ ((logAt s 127).begin at0).unread < 128 :=
  ⟨rfl, by decide +kernel, ⟨rfl, rfl, by decide +kernel, rfl⟩, by decide +kernel⟩

theorem witness_TimerEvaluationKeepsAUsableFibre :
    let s := { lit on with selector := { on.selector with evaluation := some 0 } }
    s.phase = .steering ∧ s.selector.evaluation = some 0 ∧ reached (s.begin at0).now 0 = true ∧ s.selector.carrier = .fibre ∧
    s.usable .fibre = true ∧ s.selector.stranded = false ∧ s.deliveries = [] := by decide +kernel

/-- The evaluation timer is due. -/
def evaluating (s : State) : State := { s with selector := { s.selector with evaluation := some 0 } }

/-- Both radios are ready, RADIO_B GOOD and usable, or neither usable. -/
def twoRadios (usableB : Bool) : State :=
  let s := withRadio (withRadio (evaluating running) .a standby) .b standby
  if usableB then s.setJudge .radioB { Judgement.reset with verdict := .good, merit := some 900, window := [.answered], usable := true } else s

/-- Fibre is lost with both radios OFF, in MAINS and in RESERVE (one asked for of equal biases, the other not), and with one in retry_wait;
no uplink is usable with the flag clear, or one is with the flag set; the carrier moves to RADIO_B with the flag set. -/
theorem witness_TimerEvaluationKeepsAUsableFibre_cases :
    let s := evaluating running
    let reserve := { s with conditions := { s.conditions with powerTier := .reserve } }
    let set := fun x : State => { x with selector := { x.selector with stranded := true } }
    s.decisionsHold ∧ s.undrained ∧ s.deliveries = [] ∧ s.selector.carrier = .fibre ∧ s.usable .fibre = false ∧
    (∀ r, (s.radio r).state = .off ∧ (s.radio r).retryWait = none) ∧ reserve.conditions.powerTier = .reserve ∧
    ((withRadio s .a { RadioUnit.reset with retryWait := some 9 }).radio .a).retryWait ≠ none ∧
    Undisturbed (twoRadios false) at0 ∧ (∀ r, ((twoRadios false).radio r).state ≠ .off) ∧ (∀ u, (twoRadios false).usable u = false) ∧
    (twoRadios false).selector.stranded = false ∧
    Undisturbed (set (lit (twoRadios false))) at0 ∧ (set (lit (twoRadios false))).usable .fibre = true ∧
    (set (lit (twoRadios false))).selector.stranded = true ∧
    Undisturbed (set (twoRadios true)) at0 ∧ ((set (twoRadios true)).carrierProcedure true).selector.carrier = .radioB ∧
    ((logAt (set (twoRadios true)) 126).begin at0).unread < 127 :=
  ⟨⟨fun u => by cases u <;> rfl, fun h => absurd rfl h⟩, undrained_of rfl rfl, rfl, rfl, rfl, fun r => by cases r <;> exact ⟨rfl, rfl⟩, rfl,
    by decide, ⟨rfl, rfl, by decide +kernel, rfl⟩, fun r => by cases r <;> decide, fun u => by cases u <;> rfl, rfl,
    ⟨rfl, rfl, by decide +kernel, rfl⟩, rfl, rfl, ⟨rfl, rfl, by decide +kernel, rfl⟩, by decide +kernel, by decide +kernel⟩

/-- R98 and R101 on them: a stranded part warms both radios in MAINS, the preferred alone in RESERVE. -/
theorem test_stranded_warms :
    let s := evaluating running
    let t := nextOf (exec (.evaluationTimerRunout at0) { s with conditions := { s.conditions with powerTier := .mains } })
    let r := nextOf (exec (.evaluationTimerRunout at0) { s with conditions := { s.conditions with powerTier := .reserve } })
    t.selector.stranded = true ∧ (t.radio .a).state = .warming ∧ (t.radio .b).state = .warming ∧
    [(r.radio .a).state, (r.radio .b).state].countP (· == .warming) = 1 := by decide +kernel

/-- With the carrier RADIO_A: RADIO_B better by the margin and no more, the sustain counter one short of switch_sustain and two short of
it, and return_hold waited out to the millisecond (R96, R97). -/
theorem witness_LostFibreGivesTheCarrierToTheBetterRadio :
    let j : Judgement := { Judgement.reset with verdict := .good, merit := some 900, usable := true }
    let s := { on with judges := ⟨Judgement.reset, j, j⟩ }
    let a : State := { on with
      judges := ⟨{ j with merit := none }, { j with merit := some 850 }, { j with merit := some 1000 }⟩
      selector := { on.selector with carrier := .radioA, sustain := 2, fibreSince := some (0 - 120000) } }
    (s.selector.mode = .steering ∧ s.selector.carrier = .fibre ∧ (lit s).usable .fibre = true ∧ s.usable .fibre = false ∧
    on.usable .radioA = false ∧ on.usable .radioB = false ∧ s.usable .radioA = true ∧ s.usable .radioB = true ∧
    (s.judge .radioB).merit.getD 0 + (s.cfg.judges.get .radioB).bias < (s.judge .radioA).merit.getD 0 + (s.cfg.judges.get .radioA).bias) ∧
    a.selector.mode = .steering ∧ a.selector.carrier = Radio.a.uplink ∧ a.usable .fibre = true ∧ (a.judge .fibre).verdict = .good ∧
    a.cfg.selector.returnHold * 1000 = (a.now - (0 - 120000)).toNat ∧ a.usable .radioA = true ∧ a.usable .radioB = true ∧
    (a.judge .radioA).merit.getD 0 + (a.cfg.judges.get .radioA).bias + a.cfg.selector.switchMargin =
      (a.judge .radioB).merit.getD 0 + (a.cfg.judges.get .radioB).bias ∧
    a.cfg.selector.switchSustain ≤ a.selector.sustain + 1 ∧ 1 + 1 < a.cfg.selector.switchSustain := by
  decide +kernel

theorem witness_HoldLimitRunoutReturnsToSteering :
    let s := { lit on with selector := { on.selector with mode := .hold, holdTimer := some 0 } }
    let x := { heldMode with selector := { heldMode.selector with holdTimer := some 0 } }
    (x.phase = .steering ∧ x.selector.holdTimer = some 0 ∧ x.running = true ∧ at0.failing = none ∧ memoryWf x.memory = true) ∧
    s.phase = .steering ∧ s.selector.holdTimer = some 0 ∧ reached (s.begin at0).now 0 = true ∧ s.running = false ∧
    s.selector.carrier = .fibre ∧ s.usable .fibre = true ∧ s.selector.stranded = false ∧ s.deliveries = [] := by decide +kernel

/-- The hold ends on a fibre that is not usable, with RADIO_B usable, and room for one notice. -/
theorem witness_HoldLimitRunoutReturnsToSteering_moves :
    let s := { twoRadios true with selector := { (twoRadios true).selector with mode := .hold, holdTimer := some 0 } }
    s.decisionsHold ∧ s.undrained ∧ Undisturbed s at0 ∧ ((logAt s 127).begin at0).unread < 128 ∧
    (nextOf (exec (.holdLimitRunout at0) s)).selector.carrier = .radioB :=
  ⟨⟨fun u => by cases u <;> rfl, fun h => absurd rfl h⟩, undrained_of rfl rfl, ⟨rfl, rfl, by decide +kernel, rfl⟩, by decide +kernel,
    by decide +kernel⟩

theorem witness_HoldKeepsTheCarrier : heldMode.selector.mode = .hold ∧ heldMode.phase = .steering ∧
    exec (.walkVisit at0) heldMode = .next (nextOf (exec (.walkVisit at0) heldMode)) := ⟨rfl, rfl, rfl⟩

theorem witness_AgeingRemovesIdleEntries :
    let s := { flow on .voice (some .fibre) with flows := { table (entry .voice (some .fibre)) with ageing := some 0 } }
    s.phase = .steering ∧ s.flows.ageing = some 0 ∧ reached (s.begin at0).now 0 = true ∧
    s.flows.entries.all (fun p => !decide ((s.cfg.classes.get p.2.trafficClass).idleTimeout * 1000 ≤ ((s.begin at0).now - p.2.lastSeen).toNat)) =
      true ∧ ((s.begin (after 30000)).now - 0).toNat = (s.cfg.classes.get .voice).idleTimeout * 1000 := by decide +kernel

/-- The last entry of RADIO_A, held 30 s, ages while the radio is CARRYING, and while it drains. -/
theorem witness_AgeingRemovesIdleEntries_crosses :
    let carrying := withRadio (lit running) .a { standby with state := .carrying }
    let due := fun x : State => { flow x .voice (some .radioA) with
      flows := { table (entry .voice (some .radioA)) with ageing := some 0 } }
    let s := due carrying
    let d := due (withRadio carrying .a { standby with state := .carrying, draining := true })
    s.phase = .steering ∧ s.flows.ageing = some 0 ∧ s.flows.Holds ∧ Undisturbed s (after 30000) ∧ Undisturbed d (after 30000) ∧
    s.radioCount .a = 1 ∧ ((s.begin (after 30000)).now - 0).toNat = (s.cfg.classes.get .voice).idleTimeout * 1000 ∧
    s.selector.carrier = .fibre ∧ s.usable .fibre = true ∧ s.selector.stranded = false ∧ (d.radio .a).draining = true ∧
    ((logAt s 127).begin (after 30000)).unread < 128 ∧
    ((nextOf (exec (.ageingTimerRunout (after 30000)) s)).radio .a).state = .standby ∧
    ((nextOf (exec (.ageingTimerRunout (after 30000)) d)).radio .a).state = .off :=
  ⟨rfl, rfl, ⟨List.pairwise_singleton _ _, fun p hp => by rw [List.mem_singleton.1 hp]; decide, List.nodup_singleton _,
      fun a => by rcases a with _ | _ | _ | _ <;> rfl, fun p hp => by rw [List.mem_singleton.1 hp]; exact ⟨fun h => (nomatch h), fun h => (nomatch h)⟩⟩,
    ⟨rfl, rfl, by decide +kernel, rfl⟩, ⟨rfl, rfl, by decide +kernel, rfl⟩, rfl, by decide +kernel, rfl, rfl, rfl, rfl, by decide +kernel,
    by decide +kernel, by decide +kernel⟩

theorem witness_WalkVisitPlacesTheEntry :
    let w : Walk := ⟨0, false, 1, 0, 0, 0, 1⟩
    let s := { flow on .voice (some .fibre) with walk := some w }
    s.phase = .steering ∧ s.deliveries = [] ∧ on.walk = none ∧ s.walk = some w ∧ entryAt on.flows.entries 0 = none ∧
    entryAt on.flows.entries 1023 = none ∧ entryAt s.flows.entries w.cursor = some (entry .voice (some .fibre)) ∧ w.cursor < 1023 ∧
    w.passPending = false ∧ { w with passPending := true }.passPending = true := by decide +kernel

/-- The last visit of a walk while the exchange runs. -/
theorem witness_WalkVisitPlacesTheEntry_done :
    let s := { running with walk := some ⟨1023, false, 1, 2, 3, 4, 0x25⟩ }
    Undisturbed s at0 ∧ entryAt s.flows.entries 1023 = none ∧ ((logAt s 128).begin at0).unread = 128 :=
  ⟨⟨rfl, rfl, by decide +kernel, rfl⟩, rfl, by decide +kernel⟩

theorem witness_PlacementFollowsPinHoldAndCarrier :
    let j : Judgement := { Judgement.reset with verdict := .good, usable := true }
    let s := { on with
      judges := ⟨Judgement.reset, j, Judgement.reset⟩
      conditions := { on.conditions with filtered := { on.conditions.filtered with lineBusy1 := true } } }
    s.usable .radioA = true ∧ s.usable .fibre = false ∧ Uplink.radioA ≠ s.selector.carrier ∧ s.drains .radioA = false ∧
    s.lineBusy = true ∧ on.lineBusy = false := by decide

theorem witness_WalkTriggersBeginOrExtendAWalk : on.walk = none ∧
    { on with walk := some ⟨1023, false, 1, 0, 0, 0, 1⟩ }.walk = some ⟨1023, false, 1, 0, 0, 0, 1⟩ ∧
    [TriggerKind.usability] ≠ [] := ⟨rfl, rfl, by decide⟩

/-- A bucket is long idle from 10,000,000 ms on (R159). -/
theorem witness_RefreshFillsLongIdleBuckets :
    let s := { on with policer := { on.policer with refresh := some 0 } }
    s.phase = .steering ∧ s.policer.refresh = some 0 ∧ reached (s.begin at0).now 0 = true ∧ s.deliveries = [] ∧
    10000000 ≤ ((s.begin (after 10000000)).now - (s.policer.buckets.get .voice).lastCredit).toNat ∧
    ¬ 10000000 ≤ ((s.begin (after 9999999)).now - (s.policer.buckets.get .voice).lastCredit).toNat := by decide +kernel

theorem witness_SweepsTakePostedSlots :
    let s := { running with exchange := { running.exchange with sweepAt := some 31, sweepTimer := some 0 }, memory := [(0x1080, 1)] }
    s.phase = .steering ∧ s.running = true ∧ s.deliveries = [] ∧ s.exchange.sweepTimer = some 0 ∧ reached (s.begin at0).now 0 = true ∧
    at0.failing = none ∧ memoryWf s.memory = true ∧ s.exchange.sweepAt = some 31 ∧ (s.begin at0).token 31 = tokenPosted ∧
    (s.begin at0).token 30 ≠ tokenPosted ∧ s.exchange.queue = [] ∧ s.exchange.inFlight = [] ∧ (s.begin at0).unread = 0 ∧
    ({ s with exchange := { s.exchange with writeCount := 128 } }.begin at0).unread = 128 ∧
    ([⟨31, 1, 9, []⟩] : List QueuedRequest).find? (fun q => q.slot.val == 31) = some ⟨31, 1, 9, []⟩ ∧
    ([⟨.copy, 31, 9, true⟩] : List InFlight).find? (fun f => f.tied && f.slot.val == 31) = some ⟨.copy, 31, 9, true⟩ := by decide +kernel

/-- The three accesses of a taking, each failing: the state after is the failed one (R164). -/
theorem test_failed_access :
    let s := { running with exchange := { running.exchange with sweepAt := some 31, sweepTimer := some 0 }, memory := [(0x1080, 1)] }
    s.exchange.queue.length < 8 ∧
    ∀ j : Fin 3, let m := { at0 with failing := some j.val }
      (s.begin m).token 31 = tokenPosted ∧ nextOf (exec (.sweepSlot m) s) = (s.begin m).failed ∧
      (s.begin m).failed.running = false ∧ (s.begin m).failed.regs.cause = 8 := by decide +kernel

theorem posed_running : Posed running at0 k1 := ⟨rfl, rfl, rfl, by decide +kernel, by decide +kernel, rfl⟩

theorem posed_held : Posed heldMode at0 k1 := ⟨rfl, rfl, rfl, by decide +kernel, by decide +kernel, rfl⟩

theorem witness_DispatchHandsTheOldestRequestOver :
    let s := fun k : Byte => { running with exchange := { running.exchange with queue := [⟨1, k, 7, []⟩] } }
    (∀ k, (s k).exchange.queue = [⟨1, k, 7, []⟩] ∧ (s k).phase = .steering ∧ (s k).running = true ∧ Posed (s k) at0 k1) ∧
    0x15 < (0x16 : Byte).toNat := 
  ⟨fun _ => ⟨rfl, rfl, posed_running.running, rfl, posed_running.running, rfl, posed_running.taken, posed_running.memory, rfl⟩, by decide⟩

theorem witness_ControlWritesStoreTheirFields : running.phase = .steering ∧ running.deliveries = [] ∧ (0xFF01 : Word).getLsbD 6 = false ∧
    (0xFF01 : Word).getLsbD 0 = true ∧ running.running = true ∧ (0x2 : Word).getLsbD 0 = false := by decide

theorem witness_ExchangeStartWritesTheHeader : on.phase = .steering ∧ on.running = false ∧ (1 : Word).getLsbD 0 = true ∧
    (1 : Word).getLsbD 6 = false ∧ at0.failing = none ∧ memoryWf on.memory = true ∧ on.deliveries = [] ∧ on.exchange.sweepAt = none := by
  decide

theorem witness_RegisterWritesAndLinkReset : on.deliveries = [] ∧ on.phase = .steering ∧ on.running = false ∧
    running.deliveries = [] ∧ running.phase = .steering ∧ running.running = true := by decide

/-- A slot that reads TAKEN, one that does not, and each access that fails. -/
theorem witness_StatusReportsAndChangesNothing : Posed running at0 k1 ∧ Undisturbed running at0 ∧
    (running.begin at0).token 2 ≠ tokenTaken ∧ (∀ j : Fin 5, (running.begin { at0 with failing := some j.val }).token 1 = tokenTaken) ∧
    (∀ j : Fin 4, ((logAt running 127).begin { at0 with failing := some j.val }).unread < 128) ∧ memoryWf running.memory = true :=
  ⟨posed_running, undisturbed_running, by decide +kernel, by decide +kernel, by decide +kernel, by decide +kernel⟩

theorem witness_SnapshotReadsAndClearsTheCounters : Posed running at0 k1 := posed_running

/-- The hold limit's largest value (R103). -/
theorem witness_EnterHoldBeginsOrRestartsTheHold : Posed running at0 k1 ∧ Posed heldMode at0 k1 ∧ ¬ 86400 < (86400 : Word).toNat :=
  ⟨posed_running, posed_held, by decide⟩

theorem witness_LeaveHoldEvaluatesAndAnswers : Posed running at0 k1 ∧ running.selector.mode = .steering ∧ Posed heldMode at0 k1 ∧
    heldMode.selector.mode = .hold ∧ heldMode.undrained ∧ heldMode.selector.carrier = .fibre ∧ (lit heldMode).usable .fibre = true ∧
    heldMode.decisionsHold :=
  ⟨posed_running, rfl, posed_held, rfl, undrained_of rfl rfl, rfl, rfl, fun u => by cases u <;> rfl, fun h => absurd rfl h⟩

theorem witness_SetCarrierMovesTheCarrierInHold :
    let s := withRadio heldMode .a standby
    Posed running at0 k1 ∧ running.selector.mode = .steering ∧ Posed s at0 k1 ∧ s.selector.mode = .hold ∧ 2 < (3 : Word).toNat ∧
    (1 : Word).toNat = uplinkCode .radioA ∧ s.links.get Uplink.radioA.port = true ∧ (s.radio .a).state.ready = true ∧
    (s.radio .a).draining = false ∧ s.selector.carrier ≠ .radioA ∧ s.undrained ∧ (heldMode.radio .a).state.ready = false ∧
    s.selector.carrier = .fibre ∧ (0 : Word).toNat = uplinkCode .fibre :=
  ⟨posed_running, rfl, ⟨rfl, rfl, rfl, by decide +kernel, by decide +kernel, rfl⟩, rfl, by decide, rfl, rfl, rfl, rfl, by decide,
    undrained_of rfl rfl, rfl, rfl, rfl⟩

/-- The carrier goes from RADIO_B to RADIO_A in STANDBY while the part is stranded: RADIO_B CARRYING with no entry, and RADIO_B draining with
none; room for three notices. -/
theorem witness_SetCarrierMovesTheCarrierInHold_moves :
    let z := { heldMode.setJudge .radioA { Judgement.reset with window := [.answered], merit := some 900 } with
      selector := { heldMode.selector with carrier := .radioB, stranded := true } }
    let s := withRadio (withRadio z .a standby) .b { standby with state := .carrying }
    let d := withRadio s .b { standby with state := .carrying, draining := true }
    Posed s at0 k1 ∧ Posed d at0 k1 ∧ s.selector.mode = .hold ∧ s.links.get Uplink.radioA.port = true ∧ (s.radio .a).state.ready = true ∧
    (s.radio .a).draining = false ∧ s.selector.carrier ≠ .radioA ∧ s.selector.stranded = true ∧ s.radioCount .b = 0 ∧
    (d.radio .b).draining = true ∧ ((logAt s 125).begin at0).unread + (1 + 1 + 1) = 128 ∧ ((logAt s 124).begin at0).unread + (1 + 1 + 1) < 128 ∧
    (withRadio s .b warming |>.radio .b).state = .warming ∧
    ((nextOf (exec (.setCarrier at0 k1 1) s)).radio .b).state = .standby ∧
    ((nextOf (exec (.setCarrier at0 k1 1) d)).radio .b).draining = false :=
  ⟨⟨rfl, rfl, rfl, by decide +kernel, by decide +kernel, rfl⟩, ⟨rfl, rfl, rfl, by decide +kernel, by decide +kernel, rfl⟩, rfl, rfl, rfl, rfl,
    by decide, rfl, rfl, rfl, by decide +kernel, by decide +kernel, rfl, by decide +kernel, by decide +kernel⟩

/-- The parts of a SET_UPLINK for RADIO_A: the factory judgement part, and the same with an inconsistent pair (R70). -/
def params (addressing probePart judgePart : Byte) (goodLoss : Byte) : UplinkParams :=
  ⟨1, addressing, probePart, judgePart, ⟨4, homeA, 5060, 40000, homeB, 7⟩, 1500, 0, ⟨1000, 15000, 1500⟩,
    ⟨4, 10, goodLoss, 6, 150, 3000, 750, 753, 50⟩⟩

/-- The same with another uplink, and a record of IP version 4 that is the one `probed` holds. -/
def recordParams (uplink : Word) (addressing : Byte) (limit : Word) : UplinkParams :=
  { params addressing 0 0 3 with uplink := uplink, record := ⟨4, homeA, 5060, 40000, homeB, 7⟩, linkLimit := limit }

theorem witness_SetUplinkAppliesItsParts : Posed running at0 k1 ∧ running.selector.mode = .steering ∧ Posed heldMode at0 k1 ∧
    heldMode.selector.mode = .hold ∧ (params 3 0 0 3).addressing.toNat = 3 ∧
    max 1 (min 32 (params 0 0 1 10).judge.failLoss.toNat) ≤ (params 0 0 1 10).judge.goodLoss.toNat ∧
    (params 0 1 0 3).uplink.toNat = radioCode .a ∧ (params 0 1 0 3).probePart ≠ 0 ∧ (params 1 0 0 3).addressing = 1 ∧
    (heldMode.cfg.records.get .radioA).isSome = true ∧ (∀ u, heldMode.inFlightOf (.burst u) = none) ∧ heldMode.undrained ∧
    (params 0 0 1 9).judge.goodLoss.toNat < max 1 (min 32 (params 0 0 1 9).judge.failLoss.toNat) ∧
    (params 0 0 1 9).judge.reuse.toNat < max 1 (min 16000 (params 0 0 1 9).judge.suppress.toNat) ∧
    ((recordParams 1 2 1500).uplink.toNat = radioCode .a ∧ (recordParams 1 2 1500).addressing = 2 ∧
      (recordParams 1 2 1500).record.version.toNat = versionCode .v4 ∧ heldMode.cfg.linkLimits.get .a = max 1280 (min 1600 1500) ∧
      heldMode.cfg.linkLimits.get .a ≠ max 1280 (min 1600 (1279 : Word).toNat)) ∧
    (recordParams 0 2 0).uplink = 0 ∧ (heldMode.cfg.records.get .fibre).isSome = true ∧
    heldMode.cfg.siteId ≠ 9 :=
  ⟨posed_running, rfl, posed_held, rfl, rfl, by decide, rfl, by decide, rfl, rfl, fun u => by cases u <;> rfl, undrained_of rfl rfl, by decide, by decide,
    by decide, rfl, rfl, by decide⟩

/-- A clear of a record with a burst on the uplink, whose request waits in slot 2, ends and answers it (R66). -/
theorem witness_SetUplinkAppliesItsParts_burst :
    let s := bursting heldMode .radioA ⟨3, 2, some 100, 1, 0, 900, 900, false⟩ [⟨0, 5, 0, 800, true⟩]
    let t := nextOf (exec (.setUplink at0 k1 (params 1 0 0 3)) s)
    Posed s at0 k1 ∧ s.selector.mode = .hold ∧ (s.cfg.records.get .radioA).isSome = true ∧ s.undrained ∧
    (s.inFlightOf (.burst .radioA) = some ⟨.burst .radioA, 2, 7, true⟩ ∧ (2 : Fin 32) ≠ k1.slot ∧
      ∀ v, v ≠ .radioA → s.inFlightOf (.burst v) = none) ∧ (s.begin at0).access = none ∧ (s.begin at0).token 2 = tokenTaken ∧
    t.token 1 = tokenAnswered ∧ t.token 2 = tokenAnswered ∧ t.memoryWord 0x210 = 0x00020301 :=
  ⟨⟨rfl, rfl, rfl, by decide +kernel, by decide +kernel, rfl⟩, rfl, rfl, undrained_of rfl rfl,
    ⟨rfl, by decide, fun v h => by cases v <;> first | rfl | exact absurd rfl h⟩, rfl, by decide +kernel, by decide +kernel,
    by decide +kernel, by decide +kernel⟩

/-- A fibre whose window holds two LOST: the factory part changes nothing; fail_loss 2 fails it with cause THRESHOLDS and its penalty
reaches the suppress level; a suppress level at its penalty suppresses it. -/
theorem witness_SetUplinkAppliesItsParts_judge :
    let j : Judgement := { Judgement.reset with
      verdict := .good, window := [.lost, .answered, .lost], runLost := 1, srtt := some 9000, merit := some 500, penalty := 2000
      decayTimer := some 900, usable := true }
    let s := heldMode.setJudge .fibre j
    let part := fun (failLoss goodLoss : Byte) (suppress : BitVec 16) =>
      { params 0 0 1 goodLoss with uplink := 0, judge := ⟨3, failLoss, goodLoss, 10, 40, suppress, 750, 753, 50⟩ }
    let fails := nextOf (exec (.setUplink at0 k1 (part 2 1 3000)) s)
    let level := nextOf (exec (.setUplink at0 k1 (part 8 2 2000)) s)
    Posed s at0 k1 ∧ s.selector.mode = .hold ∧ s.undrained ∧ (0 : Word).toNat = uplinkCode .fibre ∧ (params 0 1 0 3).probePart ≠ 0 ∧
    (1 : Byte).toNat < max 1 (min 32 (2 : Byte).toNat) ∧ (750 : BitVec 16).toNat < max 1 (min 16000 (3000 : BitVec 16).toNat) ∧
    (nextOf (exec (.setUplink at0 k1 (part 8 2 3000)) s)).judges = s.judges ∧
    ((fails.judge .fibre).verdict = .failed ∧ (fails.judge .fibre).penalty = 3000 ∧ (fails.judge .fibre).suppressed = true) ∧
    ((level.judge .fibre).verdict = .good ∧ (level.judge .fibre).penalty = 2000 ∧ (level.judge .fibre).suppressed = true) ∧
    ((logAt s 126).begin at0).unread + 1 < 128 :=
  ⟨⟨rfl, rfl, rfl, by decide +kernel, by decide +kernel, rfl⟩, rfl, undrained_of rfl rfl, rfl, by decide, by decide, by decide,
    by decide +kernel, by decide +kernel, by decide +kernel, by decide +kernel⟩

theorem witness_PlainSettingsAreStoredInRange : Posed running at0 k1 ∧ running.selector.mode = .steering ∧ Posed heldMode at0 k1 ∧
    heldMode.selector.mode = .hold := ⟨posed_running, rfl, posed_held, rfl⟩

/-- A SET_WATCH that asks for AUX, which is deasserted, and one that asks for nothing. -/
theorem witness_PlainSettingsAreStoredInRange_watch :
    let conforming := fun mask pattern : Byte => decide ((inputBits running.conditions.filtered ^^^ pattern) &&& mask = 0)
    running.conditions.conforming = true ∧ conforming 0x80 0x80 = false ∧ conforming 0 0x80 = true ∧
    ((logAt running 127).begin at0).unread < 128 := by decide +kernel

/-- The class record of the factory VOICE, and a class with its admission limits at their largest codes (R154). -/
theorem witness_SetClassStoresTheRecord : Posed running at0 k1 ∧ running.selector.mode = .steering ∧ Posed heldMode at0 k1 ∧
    heldMode.selector.mode = .hold ∧ 3 < (4 : Word).toNat ∧ 1 < (2 : Byte).toNat ∧ 3 < (4 : Byte).toNat ∧
    (0 : Word).toNat = classCode .voice ∧ (3 : Word).toNat = classCode .bulk ∧ (1 : Byte).toNat = policerModeCode .follow ∧
    (3 : Byte).toNat = allowanceTierCode .spent ∧ (2 : Byte).toNat = powerTierCode .reserve :=
  ⟨posed_running, rfl, posed_held, rfl, by decide, by decide, by decide, rfl, rfl, rfl, rfl, rfl⟩

/-- A rule with every field, its prefix length at the longest of IPv4 (R114). -/
def rawRule4 : RawRule := ⟨true, true, true, true, true, 2, 0, 1, 63, 5060, 5061, 4, 32, homeB⟩

theorem witness_SetRuleStoresTheRule : Posed running at0 k1 ∧ 31 < (32 : Word).toNat ∧ (31 : Word).toNat ≤ 31 ∧
    { rawRule4 with valid := false }.valid = false ∧ rawRule4.valid = true ∧ rawRule4.protocol.toNat = ruleProtocolCode .udp ∧
    rawRule4.trafficClass.toNat = classCode .voice ∧ rawRule4.pin.toNat = uplinkCode .radioA ∧ rawRule4.hasPin = true ∧
    rawRule4.hasDest = true ∧ rawRule4.destVersion.toNat = versionCode .v4 ∧ ¬ prefixMax .v4 < rawRule4.destLength.toNat :=
  ⟨posed_running, by decide, by decide, rfl, rfl, rfl, rfl, rfl, rfl, rfl, rfl, by decide⟩

theorem witness_PinPlacesTheEntryAtOnce :
    let s := flow running .voice (some .fibre)
    Posed running at0 k1 ∧ Posed s at0 k1 ∧ 3 < (4 : Byte).toNat ∧ (4 : Byte).toNat = versionCode .v4 ∧
    (3 : Byte).toNat = assignmentCode none ∧ entryOfKey running.flows.entries key4 = none ∧
    (⟨.v4, addressOf .v4 homeA, addressOf .v4 homeB, 17, 40000, 5060⟩ : FlowKey) = key4 ∧
    entryOfKey s.flows.entries key4 = some (0, entry .voice (some .fibre)) ∧ s.undrained :=
  ⟨posed_running, ⟨rfl, rfl, rfl, by decide +kernel, by decide +kernel, rfl⟩, by decide, rfl, rfl, rfl, by decide +kernel,
    by decide +kernel, undrained_of rfl rfl⟩

theorem witness_ReadFlowsCopiesRecords :
    let c : FlowCopy := ⟨0, 0, 4, 0x90000, false⟩
    let s := { flow running .voice (some .fibre) with exchange :=
      { running.exchange with inFlight := [⟨.copy, 2, 7, true⟩], copy := some c } }
    Posed running at0 k1 ∧ Posed s at0 k1 ∧ (s.inFlightOf .copy).isSome = true ∧ running.inFlightOf .copy = none ∧
    1023 < (1024 : Word).toNat ∧ (1023 : Word).toNat ≤ 1023 ∧ running.exchange.copy = none ∧ s.exchange.copy = some c ∧
    entryAt s.flows.entries 1023 = none ∧ 1023 ≤ { c with cursor := 1023 }.cursor ∧ entryAt s.flows.entries 1 = none ∧
    1 + 1 < 1024 ∧ c.written < c.max ∧ entryAt s.flows.entries c.cursor = some (entry .voice (some .fibre)) ∧ c.written + 1 < c.max :=
  ⟨posed_running, ⟨rfl, rfl, rfl, by decide +kernel, by decide +kernel, rfl⟩, rfl, rfl, by decide, by decide, rfl, rfl, rfl,
    by decide, rfl, by decide, by decide, rfl, by decide⟩

/-- The copy's last record by its index and by max, and its end at a free index; the buffer lies apart from slot 2, and in it. -/
theorem witness_ReadFlowsCopiesRecords_ends :
    let e := entry .voice (some .fibre)
    let c : FlowCopy := ⟨0, 3, 4, 0x90000, true⟩
    let s := { flow running .voice (some .fibre) with
      memory := [(0x200, 2)]
      exchange := { running.exchange with inFlight := [⟨.copy, 2, 7, true⟩], copy := some c } }
    let last := { s with
      flows := { s.flows with entries := [(1023, e)] }, exchange := { s.exchange with copy := some { c with cursor := 1023, written := 0 } } }
    Undisturbed s at0 ∧ Undisturbed last at0 ∧ s.inFlightOf .copy = some ⟨.copy, 2, 7, true⟩ ∧ (s.begin at0).token 2 = tokenTaken ∧
    entryAt s.flows.entries c.cursor = some e ∧ c.max = c.written + 1 ∧ entryAt last.flows.entries 1023 = some e ∧
    entryAt s.flows.entries 1023 = none ∧ s.slotAddress ⟨2, 7⟩ = 0x200 ∧
    (∀ j : Fin 80, ¬ (0x200 ≤ 0x90000 + 80 * 3 + j.val ∧ 0x90000 + 80 * 3 + j.val < 0x280)) ∧
    (nextOf (exec (.flowCopyStep at0) s)).memoryWord 0x214 = 1 ∧ (nextOf (exec (.flowCopyStep at0) last)).memoryWord 0x214 = 1024 :=
  ⟨⟨rfl, rfl, by decide +kernel, rfl⟩, ⟨rfl, rfl, by decide +kernel, rfl⟩, rfl, by decide +kernel, rfl, rfl, rfl, rfl, rfl, by omega,
    by decide +kernel, by decide +kernel⟩

/-- A record whose write fails. -/
theorem witness_ReadFlowsCopiesRecords_fails :
    let c : FlowCopy := ⟨0, 0, 4, 0x90000, false⟩
    let s := { flow running .voice (some .fibre) with exchange := { running.exchange with inFlight := [⟨.copy, 2, 7, true⟩], copy := some c } }
    s.running = true ∧ s.exchange.copy = some c ∧ entryAt s.flows.entries c.cursor = some (entry .voice (some .fibre)) ∧
    (nextOf (exec (.flowCopyStep { at0 with failing := some 0 }) s)).inFlightOf .copy = none :=
  ⟨rfl, rfl, rfl, by decide +kernel⟩

theorem witness_BurstsSendMarkedProbes :
    let b : Burst := ⟨2, 1, some 0, 0, 0, 0, 0, false⟩
    let s := running.setProber .fibre { Prober.reset with burst := some b }
    let d := { s with links := .all false }
    Posed running at0 k1 ∧ 2 < (3 : Word).toNat ∧ (0 : Word).toNat = uplinkCode .fibre ∧ (1 : Word).toNat = uplinkCode .radioA ∧
    Posed s at0 k1 ∧ (s.prober .fibre).burst = some b ∧ (running.prober .radioA).burst = none ∧ running.eligible .radioA = false ∧
    (running.prober .fibre).burst = none ∧ running.eligible .fibre = true ∧ (running.prober .fibre).outstanding.length < 8 ∧
    running.cfg.records.get .fibre = some rec4 ∧
    b.nextDue = some 0 ∧ reached (s.begin at0).now 0 = true ∧ s.deliveries = [] ∧ s.eligible .fibre = true ∧
    d.eligible .fibre = false ∧ (d.prober .fibre).outstanding.any (·.marked) = false ∧
    ([⟨0, 0, 0, 0, true⟩] : List Outstanding).any (·.marked) = true :=
  ⟨posed_running, by decide, rfl, rfl, ⟨rfl, rfl, rfl, by decide +kernel, by decide +kernel, rfl⟩, rfl, rfl, rfl, rfl, rfl, by decide, rfl, rfl,
    by decide +kernel, rfl, rfl, rfl, rfl, rfl⟩

/-- A burst that gives up its rest with nothing outstanding, its request waiting in slot 2; and full lists at a request and at a due probe. -/
theorem witness_BurstsSendMarkedProbes_ends :
    let b : Burst := ⟨3, 1, some 0, 1, 0, 800, 800, false⟩
    let s := { bursting running .fibre b [] with links := .all false }
    let list : List Outstanding := (List.range 8).map (fun n => ⟨BitVec.ofNat 16 n, 0, 0, 1000, false⟩)
    let full := bursting running .fibre b list
    let free := running.setProber .fibre { running.prober .fibre with outstanding := list }
    let t := nextOf (exec (.burstProbeDue at0 .fibre) s)
    s.running = true ∧ (s.begin at0).access = none ∧ memoryWf s.memory = true ∧ (s.begin at0).token 2 = tokenTaken ∧
    s.inFlightOf (.burst .fibre) = some ⟨.burst .fibre, 2, 7, true⟩ ∧ reached (s.begin at0).now 0 = true ∧ s.eligible .fibre = false ∧
    (s.prober .fibre).outstanding.any (·.marked) = false ∧ t.token 2 = tokenAnswered ∧ t.memoryWord 0x210 = 0x00010300 ∧
    full.eligible .fibre = true ∧ full.undrained ∧ (full.prober .fibre).outstanding.length = 7 + 1 ∧
    Posed free at0 k1 ∧ free.eligible .fibre = true ∧ free.undrained ∧ (free.prober .fibre).burst = none :=
  ⟨rfl, rfl, by decide +kernel, by decide +kernel, rfl, by decide +kernel, rfl, rfl, by decide +kernel, by decide +kernel, rfl,
    undrained_of rfl rfl, rfl, ⟨rfl, rfl, rfl, by decide +kernel, by decide +kernel, rfl⟩, rfl, undrained_of rfl rfl, rfl⟩

/-- Each state of RADIO_A that R42 tells apart, beside the RESERVE limit with RADIO_B in STANDBY. -/
theorem witness_RadioPowerWarmByState :
    let limit := { withRadio running .b standby with conditions := { running.conditions with powerTier := .reserve } }
    let warm := withRadio running .a warming
    let pend := { warm with exchange := { warm.exchange with inFlight := [⟨.warm .a, 2, 7, true⟩] } }
    let drain := withRadio running .a { standby with draining := true }
    Posed running at0 k1 ∧ (3 : Word).toNat ≠ 1 ∧ (3 : Word).toNat ≠ 2 ∧ (1 : Word).toNat = radioCode .a ∧
    (running.radio .a).state = .off ∧ running.undrained ∧ running.limitRefuses .a = false ∧ Posed limit at0 k1 ∧
    limit.limitRefuses .a = true ∧ (limit.radio .a).draining = false ∧ Posed warm at0 k1 ∧ (warm.radio .a).state = .warming ∧
    warm.inFlightOf (.warm .a) = none ∧ Posed pend at0 k1 ∧ (pend.inFlightOf (.warm .a)).isSome = true ∧ Posed drain at0 k1 ∧
    (drain.radio .a).draining = true ∧ (drain.radio .a).state.ready = true ∧ drain.limitRefuses .a = false ∧
    (drain.radio .b).draining = false :=
  ⟨posed_running, by decide, by decide, rfl, rfl, undrained_of rfl rfl, rfl, ⟨rfl, rfl, rfl, by decide +kernel, by decide +kernel, rfl⟩,
    rfl, rfl, ⟨rfl, rfl, rfl, by decide +kernel, by decide +kernel, rfl⟩, rfl, rfl,
    ⟨rfl, rfl, rfl, by decide +kernel, by decide +kernel, rfl⟩, rfl, ⟨rfl, rfl, rfl, by decide +kernel, by decide +kernel, rfl⟩, rfl, rfl,
    rfl, rfl⟩

theorem witness_RadioPowerOffEndsOrDrains :
    let carrier := { withRadio running .a { standby with state := .carrying } with selector := { running.selector with carrier := .radioA } }
    let idle := withRadio (lit running) .a standby
    let busy := flow idle .voice (some .radioA)
    Posed carrier at0 k1 ∧ (1 : Word).toNat = radioCode .a ∧ (carrier.radio .a).state ≠ .off ∧ carrier.selector.carrier = .radioA ∧
    carrier.usable .fibre = false ∧ carrier.usable .radioB = false ∧ Posed running at0 k1 ∧ (running.radio .a).state = .off ∧
    running.inFlightOf (.warm .a) = none ∧ Posed idle at0 k1 ∧ idle.selector.carrier = .fibre ∧ idle.usable .fibre = true ∧
    idle.selector.stranded = false ∧ idle.radioCount .a = 0 ∧ (∀ u, idle.inFlightOf (.burst u) = none) ∧ idle.undrained ∧
    Posed busy at0 k1 ∧ 0 < busy.radioCount .a :=
  ⟨⟨rfl, rfl, rfl, by decide +kernel, by decide +kernel, rfl⟩, rfl, by decide, rfl, rfl, rfl, posed_running, rfl, rfl,
    ⟨rfl, rfl, rfl, by decide +kernel, by decide +kernel, rfl⟩, rfl, rfl, rfl, rfl, fun u => by cases u <;> rfl, undrained_of rfl rfl,
    ⟨rfl, rfl, rfl, by decide +kernel, by decide +kernel, rfl⟩, by decide⟩

/-- A burst on a radio in STANDBY, its request waiting in slot 2, ends when the radio goes OFF, and when it loses READY (R66). -/
theorem witness_RadioPowerOffEndsOrDrains_burst :
    let s := bursting (withRadio (lit running) .a standby) .radioA ⟨3, 2, some 100, 1, 0, 900, 900, false⟩ [⟨0, 5, 0, 800, true⟩]
    let l := { s with conditions := { s.conditions with
      filtered := { s.conditions.filtered with radioAReady := true }, changes := s.conditions.changes.set .radioAReady (some 0) } }
    Posed s at0 k1 ∧ (s.radio .a).state.ready = true ∧ s.inFlightOf (.burst .radioA) = some ⟨.burst .radioA, 2, 7, true⟩ ∧
    (2 : Fin 32) ≠ k1.slot ∧ s.inFlightOf (.warm .a) = none ∧ (s.begin at0).access = none ∧ (s.begin at0).token 2 = tokenTaken ∧
    s.undrained ∧ l.undrained ∧ (nextOf (exec (.radioPowerOff at0 k1 1) s)).token 2 = tokenAnswered ∧
    (nextOf (exec (.pendingChangeDue at0 .radioAReady) l)).token 2 = tokenAnswered ∧
    (nextOf (exec (.pendingChangeDue at0 .radioAReady) l)).memoryWord 0x210 = 0x00020301 :=
  ⟨⟨rfl, rfl, rfl, by decide +kernel, by decide +kernel, rfl⟩, rfl, rfl, by decide, rfl, rfl, by decide +kernel, undrained_of rfl rfl,
    undrained_of rfl rfl, by decide +kernel, by decide +kernel, by decide +kernel⟩

/-- A WARM waits in slot 2 on a radio that is OFF, WARMING with no entry, WARMING with one, and the carrier beside a usable fibre. -/
theorem witness_RadioPowerOffEndsOrDrains_superseded :
    let f : InFlight := ⟨.warm .a, 2, 9, true⟩
    let waits := fun x : State => { x with memory := [(0x180, 2), (0x200, 2)], exchange := { x.exchange with inFlight := [f] } }
    let warm := waits (withRadio (lit running) .a warming)
    let carrier := waits { withRadio (lit running) .a { standby with state := .carrying } with
      selector := { running.selector with carrier := .radioA } }
    (∀ s ∈ [waits running, warm, flow warm .voice (some .radioA), carrier],
      Posed s at0 k1 ∧ Awaited s at0 .a f ∧ (nextOf (exec (.radioPowerOff at0 k1 1) s)).token 2 = tokenAnswered ∧
      readByte (nextOf (exec (.radioPowerOff at0 k1 1) s)).memory 0x202 = BitVec.ofNat 8 (outcomeCode .superseded)) ∧
    f.slot ≠ k1.slot ∧ carrier.selector.carrier = Radio.a.uplink ∧ carrier.usable .fibre = true ∧ carrier.radioCount .a = 0 := by
  refine ⟨fun s hs => ?_, by decide, rfl, rfl, rfl⟩
  simp only [List.mem_cons, List.not_mem_nil, or_false] at hs
  rcases hs with rfl | rfl | rfl | rfl <;> exact
    ⟨⟨rfl, rfl, rfl, by decide +kernel, by decide +kernel, rfl⟩, ⟨rfl, rfl, by decide +kernel⟩, by decide +kernel, by decide +kernel⟩

/-- There is room for one notice, the last, in the states above with the exchange running: a radio OFF, one that waits out a timer, one that
drains, one that may become the carrier and one let go. -/
theorem witness_RadioNotices :
    let r := withRadio running .a { RadioUnit.reset with retryWait := some 0 }
    let c := withRadio (lit running) .a { standby with coolHold := some 0 }
    Undisturbed r at0 ∧ Undisturbed c at0 ∧
    ∀ s ∈ [running, r, c, withRadio running .a { standby with draining := true }, withRadio heldMode .a standby,
      flow (withRadio (lit running) .a standby) .voice (some .radioA)], ((logAt s 127).begin at0).unread < 128 :=
  ⟨⟨rfl, rfl, by decide +kernel, rfl⟩, ⟨rfl, rfl, by decide +kernel, rfl⟩, by decide +kernel⟩

theorem witness_SetRadioTimersActsOnThePolicy :
    let s := withRadio heldMode .a standby
    let cold := { heldMode with cfg := { heldMode.cfg with timers := .all ⟨20, 180, 300, 600, .cold⟩ } }
    Posed running at0 k1 ∧ running.selector.mode = .steering ∧ Posed heldMode at0 k1 ∧ heldMode.selector.mode = .hold ∧
    1 < (2 : Word).toNat ∧ (1 : Word).toNat = radioCode .a ∧ (0 : Word).toNat = policyCode .cold ∧ (1 : Word).toNat = policyCode .warm ∧
    (s.cfg.timers.get .a).policy = .warm ∧ (s.radio .a).state = .standby ∧ (cold.cfg.timers.get .a).policy = .cold ∧
    (withRadio cold .a standby |>.radio .a).state ≠ .off ∧ (cold.radio .a).state = .off ∧ (cold.radio .a).retryWait = none ∧
    cold.limitRefuses .a = false ∧ cold.undrained ∧ Posed s at0 k1 ∧ Posed cold at0 k1 :=
  ⟨posed_running, rfl, posed_held, rfl, by decide, rfl, rfl, rfl, rfl, rfl, rfl, by decide, rfl, rfl, rfl, undrained_of rfl rfl,
    ⟨rfl, rfl, rfl, by decide +kernel, by decide +kernel, rfl⟩, ⟨rfl, rfl, rfl, by decide +kernel, by decide +kernel, rfl⟩⟩

/-- The two fractions at the boundary of an inconsistent pair: 64 and 64 are refused, 64 and 63 are stored (R150). -/
theorem witness_AllowanceRequestsSetTheMeter : Posed running at0 k1 ∧ (3 : Word).toNat ≠ 1 ∧ (1 : Word).toNat = radioCode .a ∧
    max 1 (min 255 (64 : Word).toNat) ≤ (64 : Word).toNat ∧ (63 : Word).toNat < max 1 (min 255 (64 : Word).toNat) ∧
    tierOf (running.cfg.meters.get .a) 0 = (running.meter .a).tier := ⟨posed_running, by decide, rfl, by decide, by decide, rfl⟩

/-- A new period, and a new R, that change the tier, with room for one notice. -/
theorem witness_AllowanceRequestsSetTheMeter_notice :
    let s := { running with cfg := { running.cfg with meters := .all ⟨5000, 128, 30⟩ }, meters := .all ⟨0, 0, 0, .spent⟩ }
    Posed s at0 k1 ∧ tierOf (s.cfg.meters.get .a) 5000 ≠ (s.meter .a).tier ∧ ((logAt s 127).begin at0).unread < 128 :=
  ⟨⟨rfl, rfl, rfl, by decide +kernel, by decide +kernel, rfl⟩, by decide +kernel, by decide +kernel⟩

/-- Section 11.4, 'a failed STORE and a device reset': a valid old image, and a STORE of slot 1 whose copy is the factory settings. -/
def storing (written : Nat) : State :=
  { running with
    store := ⟨some (imageOf Settings.factory ⟨9, 9⟩), ⟨.loaded, 0, 0⟩, some ⟨imageOf Settings.factory ⟨3, 0⟩, written, 0⟩⟩
    exchange := { running.exchange with inFlight := [⟨.store, k1.slot, k1.tag, true⟩] } }

/-- The old image stands when the STORE is taken and through a reset before the marker is written; the marker ends it (R181). -/
theorem test_store_marker : let old := imageOf Settings.factory ⟨9, 9⟩
    (nextOf (exec (.store at0 k1) { running with store := ⟨some old, ⟨.loaded, 0, 0⟩, none⟩ })).store.image = some old ∧
    (nextOf (exec (.deviceReset at0 0x40) (storing 0))).store.image = some old ∧
    (nextOf (exec (.storeBlockWritten at0) (storing 0))).store.image = none := by decide +kernel

/-- A write at a reading out of range stops the STORE: 61 blocks, the header invalid (R181). -/
theorem test_store_fault : let t := nextOf (exec (.storeBlockWritten { at0 with supplyInRange := false }) (storing 61))
    t.store.image = none ∧ t.store.running = none ∧ t.memoryWord 0x190 = 61 := by decide +kernel

theorem witness_StoreRunsToTheWholeImage :
    let r : StoreRun := ⟨imageOf Settings.factory ⟨0, 0⟩, 128, 0⟩
    let s := { running with
      store := { running.store with running := some r }
      exchange := { running.exchange with inFlight := [⟨.store, k1.slot, k1.tag, true⟩] } }
    Posed running at0 k1 ∧ running.store.running = none ∧ { at0 with supplyInRange := false }.supplyInRange = false ∧
    Posed running { at0 with supplyInRange := false } k1 ∧ at0.supplyInRange = true ∧ Posed s at0 k1 ∧
    Posed s { at0 with supplyInRange := false } k1 ∧ s.store.running = some r ∧
    128 ≤ r.written ∧ { r with written := 127 }.written < 128 ∧ s.inFlightOf .store = some ⟨.store, k1.slot, k1.tag, true⟩ :=
  ⟨posed_running, rfl, rfl, ⟨rfl, rfl, rfl, by decide +kernel, by decide +kernel, rfl⟩, rfl,
    ⟨rfl, rfl, rfl, by decide +kernel, by decide +kernel, rfl⟩, ⟨rfl, rfl, rfl, by decide +kernel, by decide +kernel, rfl⟩, rfl,
    by decide, by decide, rfl⟩

/-- The marker is written for a request whose slot no longer reads TAKEN. -/
theorem witness_StoreRunsToTheWholeImage_abandoned :
    let s := { storing 128 with memory := [] }
    Undisturbed s at0 ∧ s.store.running.map (·.written) = some 128 ∧ s.inFlightOf .store = some ⟨.store, k1.slot, k1.tag, true⟩ ∧
    (s.begin at0).token 1 ≠ tokenTaken ∧ (nextOf (exec (.storeBlockWritten at0) s)).store.image.isSome :=
  ⟨⟨rfl, rfl, by decide +kernel, rfl⟩, rfl, rfl, by decide +kernel, by decide +kernel⟩

/-- A state in which slots 2 to 8 read TAKEN beside k1's, with one in-flight request of each kind but one queued, and one slot with none. -/
def cancelling : State :=
  let s := withRadio (lit running) .a warming
  { s with
    memory := [(0x180, 2), (0x200, 2), (0x280, 2), (0x300, 2), (0x380, 2), (0x400, 2), (0x480, 2)]
    probers := s.probers.set .fibre { s.prober .fibre with burst := some ⟨3, 2, some 100, 1, 0, 900, 900, false⟩, outstanding := [⟨0, 5, 0, 800, true⟩] }
    exchange := { s.exchange with
      queue := [⟨2, 1, 9, []⟩]
      inFlight := [⟨.copy, 3, 7, true⟩, ⟨.store, 4, 7, true⟩, ⟨.burst .fibre, 5, 7, true⟩, ⟨.warm .a, 6, 7, true⟩]
      copy := some ⟨0, 0, 4, 0x90000, false⟩ } }

/-- The in-flight request tied to a slot of `cancelling`. -/
def tiedTo (slot : Nat) : Option InFlight := cancelling.exchange.inFlight.find? (fun f => f.tied && f.slot.val == slot)

theorem cancelling_posed : Posed cancelling at0 k1 := ⟨rfl, rfl, rfl, by decide +kernel, by decide +kernel, rfl⟩

/-- A target in the queue, one with an in-flight copy, STORE, burst and WARM, one with no request, one that is not TAKEN; the WARM once with
no entry on its radio and once with one. -/
theorem witness_CancelFindsItsTarget :
    let s := cancelling
    let busy := flow s .voice (some .radioA)
    Posed s at0 k1 ∧ 31 < (32 : Word).toNat ∧ (1 : Word).toNat = k1.slot.val ∧ (2 : Word).toNat ≤ 31 ∧ (2 : Word).toNat ≠ k1.slot.val ∧
    (s.begin at0).token 8 ≠ tokenTaken ∧ (∀ i : Fin 8, 2 ≤ i.val → (s.begin at0).token i.val = tokenTaken) ∧
    s.exchange.queue.find? (fun x => x.slot.val == 2) = some ⟨2, 1, 9, []⟩ ∧
    (∀ i : Fin 8, 3 ≤ i.val → s.exchange.queue.find? (fun x => x.slot.val == i.val) = none) ∧
    tiedTo 7 = none ∧ (tiedTo 4).map (·.owner) = some .store ∧
    (tiedTo 3 = some ⟨.copy, 3, 7, true⟩ ∧ s.inFlightOf .copy = tiedTo 3 ∧ s.exchange.copy = some ⟨0, 0, 4, 0x90000, false⟩) ∧
    (tiedTo 5 = some ⟨.burst .fibre, 5, 7, true⟩ ∧ s.inFlightOf (.burst .fibre) = tiedTo 5 ∧ (s.prober .fibre).burst.isSome) ∧
    (tiedTo 6 = some ⟨.warm .a, 6, 7, true⟩ ∧ s.inFlightOf (.warm .a) = tiedTo 6 ∧ (s.radio .a).state = .warming ∧ s.radioCount .a = 0 ∧
      s.selector.carrier = .fibre ∧ s.usable .fibre = true ∧ s.selector.stranded = false ∧ s.undrained) ∧
    (Posed busy at0 k1 ∧ 0 < busy.radioCount .a ∧ (busy.radio .a).draining = false ∧ busy.inFlightOf (.warm .a) = tiedTo 6 ∧
      (busy.radio .a).state = .warming ∧ (busy.begin at0).token 6 = tokenTaken) :=
  ⟨cancelling_posed, by decide, rfl, by decide, by decide, by decide +kernel, by decide +kernel, rfl, by decide +kernel, rfl, rfl,
    ⟨rfl, rfl, rfl⟩, ⟨rfl, rfl, rfl⟩, ⟨rfl, rfl, rfl, rfl, rfl, rfl, rfl, undrained_of rfl rfl⟩,
    ⟨rfl, rfl, rfl, by decide +kernel, by decide +kernel, rfl⟩, by decide, rfl, rfl, rfl, by decide +kernel⟩

/-- The hypotheses of the invariants hold at reset, with a command waiting. -/
theorem witness_EveryStepKeeps :
    let s := { State.reset with pending := [.walkVisit at0] }
    memoryWf s.memory = true ∧ s.metersHold ∧ s.judgementsHold ∧ s.decisionsHold ∧ s.flows.Holds ∧ s.ExchangeHolds ∧
    s.bucketsHold ∧ s.RadiosHold ∧ s.settingsHold ∧ step s = .next (nextOf (step s)) := by
  refine ⟨rfl, fun r => by cases r <;> exact ⟨by decide, by decide, by decide, rfl⟩, fun u => ?_, ⟨fun u => by cases u <;> rfl, fun _ u => by cases u <;> rfl⟩,
    ⟨.nil, fun _ h => (nomatch h), .nil, fun a => ?_, fun _ h => (nomatch h)⟩, ⟨by decide, fun _ h => (nomatch h), fun _ => ⟨rfl, rfl, rfl, rfl, rfl, rfl⟩, rfl, rfl⟩,
    fun c => by cases c <;> decide, ⟨fun r _ => by cases r <;> exact ⟨rfl, by decide, rfl, rfl⟩, fun h => (nomatch h), fun _ => ⟨rfl, fun r => by cases r <;> rfl⟩,
      fun r => .inr fun h => by cases r <;> exact (nomatch h), fun r => .inr fun h => by cases r <;> exact (nomatch h)⟩,
    fun _ => (by decide +kernel : settingsOf (imageOf Settings.factory ⟨0, 0⟩) = some Settings.factory), rfl⟩
  · cases u <;> exact ⟨by decide, by decide, fun _ h => (nomatch h), fun _ h => (nomatch h), by decide, by decide, by decide⟩
  · rcases a with _ | _ | _ | _ <;> rfl

/-- A state with an OFF radio and a CARRYING one that drains as the carrier; and one whose re-test waits. -/
theorem witness_EveryStepKeeps_radios :
    let s := { withRadio running .a { standby with state := .carrying, draining := true } with
      selector := { running.selector with carrier := .radioA } }
    s.RadiosHold ∧ s.decisionsHold ∧ ¬ s.retestWaits .a ∧
    { withRadio running .a standby with deliveries := [.carrierMoved] }.retestWaits .a :=
  ⟨⟨fun r h => by
      cases r
      · exact (nomatch h)
      · exact ⟨rfl, by decide, rfl, rfl⟩,
    fun h => (nomatch h), fun h => absurd rfl h, fun r => .inr fun h => by
      cases r
      · exact ⟨fun _ => .inl rfl, fun _ => rfl⟩
      · exact (nomatch h),
    fun r => .inr fun h => by
      cases r
      · exact .inl rfl
      · exact (nomatch h)⟩,
    ⟨fun u => by cases u <;> rfl, fun h => absurd rfl h⟩, fun h => h.elim (fun h => nomatch h) (fun h => nomatch h), .inl (.head _)⟩

theorem witness_AStoredImageLoadsAsTheSameSettings :
    settingsOf (imageOf Settings.factory ⟨5, 7⟩) = some Settings.factory := by decide +kernel

end Sys2Proof.Tests
end

section
/-! PROOFS. What an outcome makes of an uplink's judgement (R71 to R76): the smoothed delay and the runs, the verdict stage as one
change of verdict, and the record after it. -/

namespace Sys2Proof.Machine

/-! ## The smoothed delay (R72) -/

theorem smooth_some (old rtt : Nat) : smooth (some old) rtt =
    if old ≤ min rtt 2000000 then old + (min rtt 2000000 - old) / 8 else old - (old - min rtt 2000000) / 8 := rfl

/-- The model smooths upward and downward apart, in natural numbers; R72 gives one signed difference, truncated toward zero. -/
theorem smooth_some_eq_tdiv (old rtt : Nat) :
    (smooth (some old) rtt : Int) = old + (((min rtt 2000000 : Nat) : Int) - old).tdiv 8 := by
  rw [smooth_some]
  generalize min rtt 2000000 = sample
  split
  case isTrue up =>
    rw [Int.tdiv_eq_ediv_of_nonneg (by omega)]
    omega
  case isFalse down =>
    have flip : (sample : Int) - old = -((old - sample : Nat) : Int) := by omega
    rw [flip, Int.neg_tdiv, Int.tdiv_eq_ediv_of_nonneg (by omega)]
    omega

theorem smooth_some_between (old rtt : Nat) :
    min old (min rtt 2000000) ≤ smooth (some old) rtt ∧ smooth (some old) rtt ≤ max old (min rtt 2000000) := by
  rw [smooth_some]
  split <;> omega

/-- A sample within 8 µs leaves the smoothed delay where it is. -/
theorem smooth_some_near {old rtt : Nat} (below : min rtt 2000000 < old + 8) (above : old < min rtt 2000000 + 8) :
    smooth (some old) rtt = old := by
  rw [smooth_some]
  split <;> omega

/-! ## The observation of an outcome (R71 to R73) -/

variable (j : Judgement) (p : JudgeSettings)

theorem Judgement.observe_answered_srtt (rtt : Nat) : (j.observe .answered rtt).srtt = some (smooth j.srtt rtt) := rfl

@[simp] theorem Judgement.observe_verdict (o : ProbeResult) (rtt : Nat) : (j.observe o rtt).verdict = j.verdict := by cases o <;> rfl
@[simp] theorem Judgement.observe_penalty (o : ProbeResult) (rtt : Nat) : (j.observe o rtt).penalty = j.penalty := by cases o <;> rfl
@[simp] theorem Judgement.observe_suppressed (o : ProbeResult) (rtt : Nat) : (j.observe o rtt).suppressed = j.suppressed := by
  cases o <;> rfl
theorem Judgement.observe_window (o : ProbeResult) (rtt : Nat) : (j.observe o rtt).window = pushOutcome j.window o := by cases o <;> rfl

theorem Judgement.observe_window_length_ne_zero (o : ProbeResult) (rtt : Nat) : (j.observe o rtt).window.length ≠ 0 := by
  simp [Judgement.observe_window, pushOutcome]

/-! ## The verdict stage (R74) -/

theorem srttAtMost_iff {srtt : Option Nat} {bound : Nat} : srttAtMost srtt bound = true ↔ ∃ d, srtt = some d ∧ d ≤ bound := by
  cases srtt <;> simp [srttAtMost]
theorem srttAbove_iff {srtt : Option Nat} {bound : Nat} : srttAbove srtt bound = true ↔ ∃ d, srtt = some d ∧ bound < d := by
  cases srtt <;> simp [srttAbove]

theorem Judgement.failing_iff : j.failing p = true ↔ p.failRun ≤ j.runLost ∨ p.failLoss ≤ j.window.countP (· == .lost) := by
  unfold Judgement.failing
  rw [Bool.or_eq_true, decide_eq_true_eq, decide_eq_true_eq, lostIn]

/-- A failing record fails from every verdict; FAILED alone is renewed. -/
theorem Judgement.verdictStage_failing (h : j.failing p = true) (lit : Bool) :
    j.verdictStage p lit = if j.verdict = .failed then .renew else .to .failed := by
  cases hv : j.verdict <;> simp [Judgement.verdictStage, hv, h]

/-- The verdict that a decided move leads to from verdict `old`; a renewed failure stays FAILED. -/
def VerdictMove.target (old : Verdict) : VerdictMove → Verdict
  | .stay => old
  | .renew => old
  | .to v => v

/-- A row of R74, whose test the model decides as `c` and a statement spells as `q`. -/
theorem VerdictMove.eq_of_target_ite {c q : Prop} [Decidable c] (test : q ↔ c) {old v w : Verdict}
    (h : w = (if c then VerdictMove.to v else .stay).target old) : (q → w = v) ∧ (¬ q → w = old) :=
  ⟨fun hq => by rw [h, if_pos (test.mp hq), VerdictMove.target], fun hq => by rw [h, if_neg (test.not.mp hq), VerdictMove.target]⟩

/-- The rows of R74 for a record that does not fail: UNKNOWN and FAILED wait for a recovery. -/
theorem Judgement.verdictStage_recovering (h : j.failing p = false) (hv : j.verdict = .unknown ∨ j.verdict = .failed) (lit : Bool) :
    j.verdictStage p lit = if p.recoverRun ≤ j.runAnswered ∧ lit = true then .to (j.recovered p) else .stay := by
  rcases hv with hv | hv <;> simp [Judgement.verdictStage, hv, h]

theorem Judgement.verdictStage_good (h : j.failing p = false) (hv : j.verdict = .good) (lit : Bool) :
    j.verdictStage p lit =
      if p.goodLoss < lostIn j.window ∨ srttAbove j.srtt p.delayMicros = true then .to .poor else .stay := by
  simp [Judgement.verdictStage, hv, h]

theorem Judgement.verdictStage_poor (h : j.failing p = false) (hv : j.verdict = .poor) (lit : Bool) :
    j.verdictStage p lit =
      if lostIn j.window ≤ p.goodLoss ∧ srttAtMost j.srtt (p.delayMicros - p.delayMicros / 8) = true then .to .good else .stay := by
  simp [Judgement.verdictStage, hv, h]

theorem Judgement.recovered_eq : j.recovered p =
    if lostIn j.window ≤ p.goodLoss ∧ srttAtMost j.srtt p.delayMicros = true then .good else .poor := by
  simp [Judgement.recovered]

/-- A record that does not fail stays at its verdict or moves to one other than FAILED. -/
theorem Judgement.verdictStage_passing (h : j.failing p = false) (lit : Bool) :
    j.verdictStage p lit = .stay ∨ ∃ v, v ≠ .failed ∧ j.verdictStage p lit = .to v := by
  have recovered_ne : j.recovered p ≠ .failed := by rw [Judgement.recovered_eq]; split <;> decide
  cases hv : j.verdict with
  | unknown => rw [Judgement.verdictStage_recovering j p h (.inl hv)]; split <;> simp [recovered_ne]
  | failed => rw [Judgement.verdictStage_recovering j p h (.inr hv)]; split <;> simp [recovered_ne]
  | good => rw [Judgement.verdictStage_good j p h hv]; split <;> simp
  | poor => rw [Judgement.verdictStage_poor j p h hv]; split <;> simp

/-! ## The record that enters FAILED (R75, R82) -/

theorem verdictWorks_iff {v : Verdict} : verdictWorks v = true ↔ v = .good ∨ v = .poor := by cases v <;> simp [verdictWorks]

theorem Judgement.withVerdict_failed_working (h : j.verdict = .good ∨ j.verdict = .poor) (level : Nat) (due : Word) :
    j.withVerdict .failed true level due = { j.cleared with
      verdict := .failed, penalty := min 16000 (j.penalty + 1000)
      decayTimer := if j.penalty = 0 then some due else j.decayTimer
      suppressed := j.suppressed || decide (level ≤ min 16000 (j.penalty + 1000)) } := by
  simp [Judgement.withVerdict, verdictWorks_iff.mpr h, penaltyAdd]

theorem Judgement.withVerdict_failed_idle (h : ¬ (j.verdict = .good ∨ j.verdict = .poor)) (level : Nat) (due : Word) :
    j.withVerdict .failed true level due = { j.cleared with verdict := .failed } := by
  simp [Judgement.withVerdict, show verdictWorks j.verdict = false by simpa [← verdictWorks_iff] using h]

/-! ## The judgement after a decided move -/

variable (s : State) (u : Uplink)

/-- Working the usable decision out anew changes that decision alone in the record. -/
theorem State.refreshUsable_judge_usable : ∃ b, (s.refreshUsable u).judge u = { s.judge u with usable := b } := by
  unfold State.refreshUsable
  dsimp only
  split
  · exact ⟨_, rfl⟩
  · exact ⟨s.usableTerms u, State.judge_setJudge s u _⟩

/-- The notices and deliveries of a change leave the record at what `withVerdict` makes of it, up to the usable decision. -/
theorem State.changeVerdict_judge {v : Verdict} (hv : (s.judge u).verdict ≠ v) (c : VerdictCause) (penalise : Bool) :
    ∃ b, (s.changeVerdict u v c penalise).judge u =
      { (s.judge u).withVerdict v penalise (s.cfg.judges.get u).suppress (s.after 1000) with usable := b } := by
  unfold State.changeVerdict
  dsimp only
  rw [if_neg hv]
  generalize (s.judge u).withVerdict v penalise _ _ = k
  obtain ⟨b, hb⟩ := State.refreshUsable_judge_usable (s.setJudge u k) u
  rw [State.judge_setJudge] at hb
  refine ⟨b, Eq.trans ?_ hb⟩
  split
  · exact State.raise_judge _ _ u
  · exact (State.raiseSuppression_judge _ u 0 u).trans (State.raise_judge _ _ u)

theorem State.changeVerdict_judge_of_ne_failed {v : Verdict} (hv : v ≠ .failed) (c : VerdictCause) (penalise : Bool) :
    ∃ b, (s.changeVerdict u v c penalise).judge u = { s.judge u with verdict := v, usable := b } := by
  by_cases same : (s.judge u).verdict = v
  · exact ⟨_, by rw [State.changeVerdict, if_pos same, ← same]⟩
  · obtain ⟨b, hb⟩ := State.changeVerdict_judge s u same c penalise
    exact ⟨b, by rw [hb, Judgement.withVerdict, if_neg hv]⟩

/-- The verdict stage of a failing record: entering FAILED and renewing it leave the same kind of record (R75). -/
theorem State.applyMove_failing_judge (c : VerdictCause) (h : (s.judge u).failing p = true) (lit : Bool) :
    ∃ b, (s.applyMove u c ((s.judge u).verdictStage p lit)).judge u =
      { (s.judge u).withVerdict .failed true (s.cfg.judges.get u).suppress (s.after 1000) with usable := b } := by
  rw [Judgement.verdictStage_failing _ _ h]
  split
  case isTrue renewed =>
    refine ⟨(s.judge u).usable, (State.judge_setJudge s u _).trans ?_⟩
    rw [Judgement.withVerdict_failed_idle _ (by simp [renewed]), ← renewed]
    rfl
  case isFalse entered => exact State.changeVerdict_judge s u entered c true

/-- The verdict stage of a record that does not fail: the verdict alone moves, beside the usable decision. -/
theorem State.applyMove_passing_judge (c : VerdictCause) (h : (s.judge u).failing p = false) (lit : Bool) :
    ∃ b, (s.applyMove u c ((s.judge u).verdictStage p lit)).judge u =
      { s.judge u with verdict := ((s.judge u).verdictStage p lit).target (s.judge u).verdict, usable := b } := by
  rcases Judgement.verdictStage_passing _ _ h lit with stay | ⟨v, hv, move⟩
  · rw [stay]; exact ⟨_, rfl⟩
  · rw [move]; exact State.changeVerdict_judge_of_ne_failed s u hv c true

theorem State.applyMove_judge_ne (c : VerdictCause) (m : VerdictMove) {v : Uplink} (h : v ≠ u) :
    (s.applyMove u c m).judge v = s.judge v :=
  match m with
  | .stay => rfl
  | .renew => State.setJudge_judge_ne s u v _ h
  | .to w => State.changeVerdict_judge_ne s u v w c true h

/-! ## One outcome (section 5.2) -/

/-- The record at the verdict stage: the outcome observed and the merit worked out. -/
def Judgement.weighed (o : ProbeResult) (rtt : Nat) : Judgement :=
  { j.observe o rtt with merit := (j.observe o rtt).meritStage p }

@[simp] theorem Judgement.weighed_verdict (o : ProbeResult) (rtt : Nat) : (j.weighed p o rtt).verdict = j.verdict :=
  Judgement.observe_verdict j o rtt
@[simp] theorem Judgement.weighed_penalty (o : ProbeResult) (rtt : Nat) : (j.weighed p o rtt).penalty = j.penalty :=
  Judgement.observe_penalty j o rtt
@[simp] theorem Judgement.weighed_suppressed (o : ProbeResult) (rtt : Nat) : (j.weighed p o rtt).suppressed = j.suppressed :=
  Judgement.observe_suppressed j o rtt
theorem Judgement.weighed_window (o : ProbeResult) (rtt : Nat) : (j.weighed p o rtt).window = pushOutcome j.window o :=
  Judgement.observe_window j o rtt
theorem Judgement.weighed_merit (o : ProbeResult) (rtt : Nat) : (j.weighed p o rtt).merit =
    some (1000 - lossTerm (lostIn (j.observe o rtt).window) (j.observe o rtt).window.length -
      delayTerm (j.observe o rtt).srtt p.delayMicros) :=
  if_neg (Judgement.observe_window_length_ne_zero j o rtt)

theorem State.takeOutcome_eq (o : ProbeResult) (rtt : Nat) : s.takeOutcome u o rtt =
    let k := (s.judge u).weighed (s.cfg.judges.get u) o rtt
    (s.setJudge u k).applyMove u .outcome (k.verdictStage (s.cfg.judges.get u) (s.mayRecover u)) := rfl

theorem State.takeOutcome_failing_judge (o : ProbeResult) (rtt : Nat)
    (h : ((s.judge u).observe o rtt).failing (s.cfg.judges.get u) = true) :
    ∃ b, (s.takeOutcome u o rtt).judge u =
      { ((s.judge u).weighed (s.cfg.judges.get u) o rtt).withVerdict .failed true (s.cfg.judges.get u).suppress (s.after 1000)
        with usable := b } := by
  have key := State.applyMove_failing_judge (s.cfg.judges.get u) (s.setJudge u ((s.judge u).weighed (s.cfg.judges.get u) o rtt)) u .outcome
  rw [State.judge_setJudge] at key
  rw [State.takeOutcome_eq]
  exact key h (s.mayRecover u)

theorem State.takeOutcome_passing_judge (o : ProbeResult) (rtt : Nat)
    (h : ((s.judge u).observe o rtt).failing (s.cfg.judges.get u) = false) :
    ∃ b, (s.takeOutcome u o rtt).judge u =
      { (s.judge u).weighed (s.cfg.judges.get u) o rtt with
        verdict := (((s.judge u).observe o rtt).verdictStage (s.cfg.judges.get u) (s.mayRecover u)).target (s.judge u).verdict
        usable := b } := by
  have key := State.applyMove_passing_judge (s.cfg.judges.get u) (s.setJudge u ((s.judge u).weighed (s.cfg.judges.get u) o rtt)) u .outcome
  rw [State.judge_setJudge] at key
  rw [State.takeOutcome_eq, ← Judgement.observe_verdict (s.judge u) o rtt]
  exact key h (s.mayRecover u)

theorem State.takeOutcome_judge_ne (o : ProbeResult) (rtt : Nat) {v : Uplink} (h : v ≠ u) :
    (s.takeOutcome u o rtt).judge v = s.judge v := by
  rw [State.takeOutcome_eq]
  exact (State.applyMove_judge_ne _ u _ _ h).trans (State.setJudge_judge_ne s u v _ h)

theorem State.mayRecover_iff :
    s.mayRecover u = true ↔ (u = .fibre → s.links.f = true ∧ s.level .opticalLoss = false) := by
  cases u <;> simp [State.mayRecover, Uplink.radio?, State.fibreLit]

end Sys2Proof.Machine

section
open Sys2Proof Sys2Proof.Machine

/-- Settles O20: the smoothed delay by `smooth_some`, the Judge by what the verdict stage makes of a failing record and of one that
does not fail, row by row. -/
theorem outcomesMoveTheSmoothedDelayAndTheRuns : Obligations.OutcomesMoveTheSmoothedDelayAndTheRuns := by
  unfold Obligations.OutcomesMoveTheSmoothedDelayAndTheRuns
  refine ⟨fun j rtt => ⟨⟨rfl, ?void, ?held⟩, rfl, rfl, rfl, rfl⟩, ?judge⟩
  case void =>
    intro hj
    rw [Judgement.observe_answered_srtt, hj]
    rfl
  case held =>
    intro old hj sample
    obtain ⟨above, below⟩ := smooth_some_between old rtt
    refine ⟨smooth (some old) rtt, by rw [Judgement.observe_answered_srtt, hj], smooth_some_eq_tdiv old rtt, above, below, ?_,
      smooth_some_near⟩
    omega
  case judge =>
    intro s u o rtt t p old j lost limit fails atMost above recovers works penalty becomes
    refine ⟨fun hf => ?fails, fun hn => ?passes, fun v hv => State.takeOutcome_judge_ne s u o rtt hv⟩
    case fails =>
      obtain ⟨b, hb⟩ := State.takeOutcome_failing_judge s u o rtt ((Judgement.failing_iff j p).mpr hf)
      by_cases hw : works
      · rw [Judgement.withVerdict_failed_working _ (by rwa [Judgement.weighed_verdict]), Judgement.weighed_penalty,
          Judgement.weighed_suppressed] at hb
        dsimp only [becomes, t]
        rw [hb]
        exact ⟨rfl, rfl, rfl, rfl, rfl, rfl, fun _ => ⟨rfl, rfl⟩, fun h => absurd hw h⟩
      · rw [Judgement.withVerdict_failed_idle _ (by rwa [Judgement.weighed_verdict])] at hb
        dsimp only [becomes, t]
        rw [hb]
        exact ⟨rfl, rfl, rfl, rfl, rfl, rfl, fun h => absurd h hw,
          fun _ => ⟨Judgement.weighed_penalty old p o rtt, Judgement.weighed_suppressed old p o rtt⟩⟩
    case passes =>
      have hn' : j.failing p = false := by simpa using (Judgement.failing_iff j p).not.mpr hn
      obtain ⟨b, hb⟩ := State.takeOutcome_passing_judge s u o rtt hn'
      have hverdict : (t.judge u).verdict = (j.verdictStage p (s.mayRecover u)).target old.verdict := congrArg Judgement.verdict hb
      have holds : j.verdict = old.verdict := Judgement.observe_verdict old o rtt
      refine ⟨(congrArg Judgement.window hb).trans (Judgement.weighed_window old p o rtt), by rw [hb]; rfl,
        by rw [hb]; rfl, by rw [hb]; rfl,
        (congrArg Judgement.penalty hb).trans (Judgement.weighed_penalty old p o rtt),
        (congrArg Judgement.suppressed hb).trans (Judgement.weighed_suppressed old p o rtt),
        (congrArg Judgement.merit hb).trans (Judgement.weighed_merit old p o rtt), ?recovering, ?good, ?poor⟩
      case recovering =>
        intro hv
        rw [Judgement.verdictStage_recovering j p hn' (holds.symm ▸ hv)] at hverdict
        obtain ⟨recovered, waits⟩ := VerdictMove.eq_of_target_ite (and_congr_right' (State.mayRecover_iff s u).symm) hverdict
        have calm : lost ≤ p.goodLoss ∧ atMost limit ↔ _ := and_congr_right' srttAtMost_iff.symm
        exact ⟨fun hr h => (recovered hr).trans ((Judgement.recovered_eq j p).trans (if_pos (calm.mp h))),
          fun hr h => (recovered hr).trans ((Judgement.recovered_eq j p).trans (if_neg (calm.not.mp h))), waits⟩
      case good =>
        intro hv
        rw [Judgement.verdictStage_good j p hn' (holds.trans hv), hv] at hverdict
        exact VerdictMove.eq_of_target_ite (or_congr_right srttAbove_iff.symm) hverdict
      case poor =>
        intro hv
        rw [Judgement.verdictStage_poor j p hn' (holds.trans hv), hv] at hverdict
        exact VerdictMove.eq_of_target_ite (and_congr_right' srttAtMost_iff.symm) hverdict

end
end

section
/-! PROOFS. ENTER_HOLD (R103): the Selector as HOLD begins, the device state word as the one part of host memory that this writes, and
the hold remaining that the answer carries. -/

namespace Sys2Proof.Machine

/-! ## The limit (R103) -/

theorem ranged_holdLimit (n : Nat) : ranged 0 holdLimitMax n = (min 86400 n, decide (86400 < n)) := by
  show (max 0 (min 86400 n), decide (n < 0) || decide (86400 < n)) = _
  simp

theorem doneOrClamped_decide (p : Prop) [Decidable p] : doneOrClamped (decide p) = if p then .clamped else .done := by
  simp [doneOrClamped]

/-- A timer just started, no longer than half the clock's range, is not yet due (Conventions). -/
theorem reached_add_eq_false (now : Word) {n : Nat} (pos : 0 < n) (short : n ≤ 2 ^ 31) :
    reached now (now + BitVec.ofNat 32 n) = false := by
  simp only [reached, decide_eq_false_iff_not, BitVec.toNat_sub, BitVec.toNat_add, BitVec.toNat_ofNat]
  omega

/-! ## The Selector as HOLD begins (R92, R103) -/

variable (s : State)

/-- The part with its Selector as HOLD begins or starts afresh with a limit of n s; nothing written to the host yet. -/
def State.held (n : Nat) : State :=
  s.setSelector { s.selector with
    mode := .hold, sustain := 0, holdLimit := n
    holdTimer := if n = 0 then none else some (s.now + BitVec.ofNat 32 (n * 1000)) }

/-- Begun from STEERING, HOLD has the device state word rewritten; begun afresh in HOLD, it leaves the word as it stands (R163). -/
theorem State.beginHold_eq (n : Nat) :
    s.beginHold n = if s.selector.mode = .hold then s.held n else (s.held n).writeStateWord := rfl

/-- What remains as HOLD begins is the whole limit, and 0xFFFFFFFF where no limit runs. -/
theorem State.word_holdRemaining_held {n : Nat} (small : n ≤ 86400) :
    word (s.held n).holdRemaining = if n = 0 then 0xFFFFFFFF else BitVec.ofNat 32 (n * 1000) := by
  by_cases hn : n = 0
  · subst hn
    rfl
  · have later : reached s.now (s.now + BitVec.ofNat 32 (n * 1000)) = false := reached_add_eq_false s.now (by omega) (by omega)
    have running : (s.held n).selector.holdTimer = some (s.now + BitVec.ofNat 32 (n * 1000)) := if_neg hn
    have remains : (s.held n).holdRemaining = (s.now + BitVec.ofNat 32 (n * 1000) - s.now).toNat := by
      unfold State.holdRemaining
      rw [running]
      exact if_neg (by rw [show (s.held n).now = s.now from rfl, later]; decide)
    rw [if_neg hn, remains, add_sub_cancel_left, word, BitVec.ofNat_toNat, BitVec.setWidth_eq]

/-! ## HOLD begins, and the request is answered (R103) -/

variable {s}

/-- The slots lie past the device state word (R184). -/
theorem not_among_stateWord_slot (base : Nat) (slot : Fin 32) : ¬ among base 4 (base + slotOffset slot) := by
  rw [among_base (by decide) (by simp only [slotOffset, addressSpace]; omega)]
  simp only [slotOffset]
  omega

/-- While no access fails, the device state word is the one place that its rewriting touches. -/
theorem State.writeStateWord_clean (hr : s.running = true) (hc : s.calm) :
    ∃ mem, s.writeStateWord = s.withMemory mem ∧ memoryWf mem = true ∧
      ∀ a, ¬ among (s.area 0) 4 a → readByte mem a = readByte s.memory a :=
  ⟨_, State.writeAccess_clean hr hc.1 _ _, writeBytes_wf _ hc.2, fun _ ha =>
    readByte_writeBytes_other _ hc.2 (by rwa [leBytes_length])⟩

/-- In either mode the Selector is as HOLD begins, and no byte of host memory but the device state word's differs. -/
theorem State.beginHold_clean (hr : s.running = true) (hc : s.calm) (n : Nat) :
    ∃ mem, s.beginHold n = (s.held n).withMemory mem ∧ memoryWf mem = true ∧
      ∀ a, ¬ among (s.area 0) 4 a → readByte mem a = readByte s.memory a := by
  rw [State.beginHold_eq]
  split
  case isTrue => exact ⟨s.memory, rfl, hc.2, fun _ _ => rfl⟩
  case isFalse => exact State.writeStateWord_clean (s := s.held n) hr hc

/-- ENTER_HOLD is HOLD begun with the limit in range, and then answered with the mode, the carrier and the whole limit as what remains. -/
theorem State.takeEnterHold_clean (hr : s.running = true) (hc : s.calm) (k : Ticket) (ht : s.token k.slot = tokenTaken) (limit : Word) :
    let n := min 86400 limit.toNat
    ∃ mem, AnsweredFrom ((s.held n).withMemory mem) (s.takeEnterHold k limit) k (if 86400 < limit.toNat then .clamped else .done)
        [halves 1 (uplinkCode s.selector.carrier), if n = 0 then 0xFFFFFFFF else BitVec.ofNat 32 (n * 1000)] ∧
      ∀ a, ¬ among (s.area 0) 4 a → readByte mem a = readByte s.memory a := by
  intro n
  obtain ⟨mem, begun, wf, other⟩ := State.beginHold_clean hr hc n
  have taken : ((s.held n).withMemory mem).token k.slot = tokenTaken :=
    (congrArg BitVec.toNat (other _ (not_among_stateWord_slot _ k.slot))).trans ht
  have reply : s.takeEnterHold k limit = ((s.held n).withMemory mem).reply k .enterHold (if 86400 < limit.toNat then .clamped else .done)
      [halves 1 (uplinkCode s.selector.carrier), word (s.held n).holdRemaining] := by
    unfold State.takeEnterHold
    rw [ranged_holdLimit]
    dsimp only
    rw [doneOrClamped_decide, begun]
    rfl
  rw [reply, s.word_holdRemaining_held (Nat.min_le_left 86400 limit.toNat)]
  exact ⟨mem, State.answer_from (s := (s.held n).withMemory mem) hr hc.1 wf k taken _ _ (by simp), other⟩

/-- A posed request is met by a part none of whose accesses fails. -/
theorem Posed.calm {m : Moment} {k : Ticket} (h : Posed s m k) : (s.begin m).calm := ⟨h.failing, writeCells_wf _ h.memory⟩

theorem exec_enterHold (s : State) (m : Moment) (k : Ticket) (limit : Word) :
    exec (.enterHold m k limit) s = s.go m (whenRunning fun u => u.takeEnterHold k limit) := rfl

end Sys2Proof.Machine

section
open Sys2Proof Sys2Proof.Machine

/-- Settles O38: HOLD begins or starts afresh in the Selector and is answered as `State.takeEnterHold_clean` says, so that host memory
differs in the device state word and in the slot, and no delivery is left to take. -/
theorem enterHoldBeginsOrRestartsTheHold : Obligations.EnterHoldBeginsOrRestartsTheHold := by
  unfold Obligations.EnterHoldBeginsOrRestartsTheHold
  intro s m k limit posed b n
  obtain ⟨mem, ⟨answered, rest, -, outside⟩, other⟩ :=
    State.takeEnterHold_clean (s := b) posed.running posed.calm k posed.taken limit
  have effect : whenRunning (fun u => u.takeEnterHold k limit) b = b.takeEnterHold k limit :=
    whenRunning_on posed.steering posed.running
  have idle : (b.takeEnterHold k limit).deliveries = [] := by
    rw [rest]
    exact posed.settled
  rw [exec_enterHold]
  exact ⟨b.takeEnterHold k limit, State.go_idle effect idle, rest, answered, fun a word slot => (outside a slot).trans (other a word)⟩

end
end

section
/-! PROOFS. Placement (R130, R131): the three steps, each with the condition under which it is the one that decides, and the admission
test of a radio. -/

namespace Sys2Proof.Machine

variable (s : State) (c : TrafficClass)

/-! ## What the steps test -/

theorem State.lineBusy_iff :
    s.lineBusy = true ↔ s.conditions.filtered.lineBusy1 = true ∨ s.conditions.filtered.lineBusy2 = true :=
  Bool.or_eq_true_iff

@[simp] theorem State.drains_fibre : s.drains .fibre = false := rfl

@[simp] theorem State.drains_uplink (r : Radio) : s.drains r.uplink = (s.radio r).draining := by cases r <;> rfl

theorem State.drains_iff {u : Uplink} : s.drains u = true ↔ ∃ r : Radio, u = r.uplink ∧ (s.radio r).draining = true := by
  constructor
  · intro h
    cases hu : u.radio? with
    | none => simp [Uplink.fibre_of hu] at h
    | some r =>
      obtain rfl := Uplink.radio_eq hu
      exact ⟨r, rfl, s.drains_uplink r ▸ h⟩
  · rintro ⟨r, rfl, h⟩
    rwa [s.drains_uplink]

theorem State.admits_iff (r : Radio) : s.admits c r = true ↔
    allowanceTierCode (s.meter r).tier ≤ allowanceTierCode (s.cfg.classes.get c).radioAdmission ∧
      powerTierCode s.conditions.powerTier ≤ powerTierCode (s.cfg.classes.get c).powerAdmission := by
  simp only [State.admits, Bool.and_eq_true, decide_eq_true_eq]

theorem State.usablePin_eq_none_iff {pin : Option Uplink} :
    s.usablePin pin = none ↔ ∀ u, pin = some u → s.usable u = false := by
  simp only [State.usablePin, Option.filter_eq_none_iff, Bool.not_eq_true]

theorem State.voiceHolds_iff {held : Option Uplink} : s.voiceHolds c held = true ↔
    c = .voice ∧ s.lineBusy = true ∧
      ∃ u, held = some u ∧ u ≠ s.selector.carrier ∧ s.usable u = true ∧ s.drains u = false := by
  cases held with
  | none => simp [State.voiceHolds]
  | some u =>
    simp only [State.voiceHolds, State.isCarrier, Bool.and_eq_true, Bool.not_eq_true', beq_iff_eq, beq_eq_false_iff_ne,
      Option.some.injEq, exists_eq_left', ne_comm (a := s.selector.carrier)]
    tauto

/-- The voice hold fails where any one of its conditions does. -/
theorem State.voiceHolds_eq_false {held : Option Uplink}
    (h : c ≠ .voice ∨ held = none ∨ held = some s.selector.carrier ∨ s.lineBusy = false ∨
      ∃ u, held = some u ∧ (s.usable u = false ∨ s.drains u = true)) : s.voiceHolds c held = false := by
  rw [← Bool.not_eq_true, s.voiceHolds_iff]
  rintro ⟨voice, busy, u, rfl, notCarrier, usable, stays⟩
  rcases h with other | unassigned | carrier | idle | ⟨v, same, unusable | draining⟩
  · exact other voice
  · cases unassigned
  · exact notCarrier (Option.some.inj carrier)
  · simp [idle] at busy
  · cases same
    simp [unusable] at usable
  · cases same
    simp [draining] at stays

/-! ## What the steps give -/

theorem State.placeOn_fibre : s.placeOn c .fibre = ⟨some .fibre, .settled⟩ := rfl

theorem State.placeOn_uplink (r : Radio) :
    s.placeOn c r.uplink = if s.admits c r then ⟨some r.uplink, .settled⟩ else ⟨none, .shed⟩ := by
  cases r <;> rfl

variable {c} {pin held : Option Uplink}

theorem State.place_pinned {u : Uplink} (usable : s.usable u = true) : s.place c (some u) held = s.placeOn c u := by
  have chosen : s.usablePin (some u) = some u := Option.filter_some_pos usable
  simp only [State.place, chosen]

theorem State.place_held (noPin : s.usablePin pin = none) (holds : s.voiceHolds c held = true) :
    s.place c pin held = ⟨held, .held⟩ := by
  simp only [State.place, noPin, holds, if_true]

theorem State.place_carrier (noPin : s.usablePin pin = none) (free : s.voiceHolds c held = false) :
    s.place c pin held = s.placeOn c s.selector.carrier := by
  simp [State.place, noPin, free]

end Sys2Proof.Machine

section
open Sys2Proof Sys2Proof.Machine

/-- Settles O28: a usable pin by `State.place_pinned`; without one, the voice hold by `State.voiceHolds_iff`, and the carrier where
`State.voiceHolds_eq_false` denies it; a radio as a target by its admission test. -/
theorem placementFollowsPinHoldAndCarrier : Obligations.PlacementFollowsPinHoldAndCarrier := by
  unfold Obligations.PlacementFollowsPinHoldAndCarrier
  intro s c pin held
  refine ⟨?pinned, ?unpinned, s.placeOn_fibre c, ?radio, s.lineBusy_iff, fun u => s.drains_iff⟩
  case pinned =>
    rintro u rfl usable
    exact s.place_pinned usable
  case unpinned =>
    intro unusable
    have noPin : s.usablePin pin = none := s.usablePin_eq_none_iff.mpr unusable
    constructor
    · rintro u rfl rfl notCarrier usable stays busy
      exact s.place_held noPin ((s.voiceHolds_iff _).mpr ⟨rfl, busy, u, rfl, notCarrier, usable, stays⟩)
    · intro denied
      exact s.place_carrier noPin (s.voiceHolds_eq_false c denied)
  case radio =>
    intro r
    simp only [s.placeOn_uplink, s.admits_iff]

end
end
